-- ==== Sys2Proof/Word.lean ====
section
/-! DEFINITION. The widths the rules name (spec/00_scope.md R7): a byte, a 32-bit word, a 17-bit buffer index. -/

namespace Sys2Proof

/-- An octet of the stream or of the frame buffer (R7). -/
abbrev Byte := BitVec 8

/-- A 32-bit value: CRC, trailer, host register read (R7, R34). -/
abbrev Word := BitVec 32

/-- A frame buffer index: "an index is unsigned and 17 bits wide" (R51). -/
abbrev Index := BitVec 17

end Sys2Proof
end

