-- ==== Sys2Proof/Config.lean ====
section
/-! DEFINITION. The parameters of spec/00_scope.md R6: those the spec fixes are constants here; the OPEN scalars are
the record `Params`, which an instance carries in its state and no step writes; the OPEN tables are opaque, and their
type carries the constraints of spec/43_enum_tables.md R205. -/

namespace Sys2Proof

/-- A 32-bit signed code: "-2^31..2^31-1" (R78, R200). -/
def isI32 (code : Int) : Bool := decide (-(2 ^ 31) ≤ code) && decide (code < 2 ^ 31)

/-- The constraints on a table parameter (R205): "Every key is a 32-bit signed integer" and "The keys of one table are
distinct". -/
def tableAdmissible (entries : List (Int × String)) : Bool :=
  entries.all (fun e => isI32 e.1) && decide (entries.map Prod.fst).Nodup

/-- A table parameter (R200, R205) with the proof that it meets the constraints: for a table that breaks them "no model
instance exists" (R263), so none can be built. The defaults only show Lean that such a table exists. -/
structure LabelTable where
  entries : List (Int × String) := []
  admissible : tableAdmissible entries = true := by decide
  deriving DecidableEq, Repr, Inhabited

/-- The parameter `LUT_POSTYPE`, which "contains `16 ↦ "SINGLE"`" (R205): its other entries, with the proof that the whole
table is admissible. -/
structure PostypeTable where
  others : List (Int × String) := []
  admissible : tableAdmissible ((16, "SINGLE") :: others) = true := by decide
  deriving DecidableEq, Repr, Inhabited

/-- The whole table, the fixed entry first. -/
def PostypeTable.toLabelTable (t : PostypeTable) : LabelTable where
  entries := (16, "SINGLE") :: t.others
  admissible := t.admissible

namespace Config

/-- `SYNC1`, `SYNC2`, `SYNC3` (R6, R71). -/
def sync1 : Byte := 0xAA
def sync2 : Byte := 0x44
def sync3 : Byte := 0x12

/-- `CRC_POLY`, bit-reflected (R6, R100). -/
def crcPoly : Word := 0xEDB88320

/-- `CRC_INIT` (R6, R100). -/
def crcInit : Word := 0

/-- `HDR_MIN`, the smallest accepted header length (R6, decision D6). -/
def hdrMin : Nat := 10

/-- `FRAME_MAX`, the bytes of the frame buffer (R6, R27). -/
def frameMax : Nat := 65790

/-- `POS_BODY_MIN` (R6, R83). -/
def posBodyMin : Nat := 72

/-- `VER_REC_LEN` (R6, R84). -/
def verRecLen : Nat := 108

/-- `SINGLE_CODE` (R6, decision D13). -/
def singleCode : Int := 16

/-- The mask of iono category 3, fixed by the source (R87). -/
def fIonoMultifreq : Byte := 0x06

/-- The masks shared by BeiDou B1/B2 and GLONASS L1/L2, each against its own byte (R87, R172, decision D14). -/
def fBdsB1 : Byte := 0x10
def fBdsB2 : Byte := 0x20
def fGloL1 : Byte := 0x10
def fGloL2 : Byte := 0x20

/-- `LUT_SOLSTAT`. OPEN (decision D12): of its contents a proof can see the constraints of R205 and nothing else.
DESIGN CHOICE, safe: log 5. -/
opaque solstatTable : LabelTable

/-- `LUT_POSTYPE`. OPEN but for its entry 16 (decision D12, R205). DESIGN CHOICE, safe: log 5. -/
opaque postypeTable : PostypeTable

/-- `LUT_DATUM`. OPEN (decision D12). DESIGN CHOICE, safe: log 5. -/
opaque datumTable : LabelTable

/-- `LUT_COMPTYPE`. OPEN (decision D12). DESIGN CHOICE, safe: log 5. -/
opaque comptypeTable : LabelTable

/-- The entries of the four tables; of `LUT_POSTYPE`, those other than `16 ↦ "SINGLE"`. -/
def solstatEntries : List (Int × String) := solstatTable.entries
def postypeOthers : List (Int × String) := postypeTable.others
def datumEntries : List (Int × String) := datumTable.entries
def comptypeEntries : List (Int × String) := comptypeTable.entries

end Config

/-- The constraints on the OPEN scalars: the two message type codes differ (decision D37) and each open flag mask is
nonzero (92_eei_decisions.md, "Open parameters"). -/
def paramsAdmissible (msgidPosition msgidVersion : BitVec 16)
    (fGlide fIonoKlobuchar fIonoSbas fAntennaWarn fGalE1 fGpsL1 fGpsL2 fGpsL5 : Byte) : Bool :=
  msgidPosition != msgidVersion && fGlide != 0 && fIonoKlobuchar != 0 && fIonoSbas != 0 && fAntennaWarn != 0 &&
    fGalE1 != 0 && fGpsL1 != 0 && fGpsL2 != 0 && fGpsL5 != 0

/-- The OPEN scalar parameters of one instance (R6, R87), with the proof that they are admissible: "a model instance in
which they are equal is refused", so none can be built. -/
structure Params where
  msgidPosition : BitVec 16
  msgidVersion : BitVec 16
  fGlide : Byte
  fIonoKlobuchar : Byte
  fIonoSbas : Byte
  fAntennaWarn : Byte
  fGalE1 : Byte
  fGpsL1 : Byte
  fGpsL2 : Byte
  fGpsL5 : Byte
  admissible : paramsAdmissible msgidPosition msgidVersion fGlide fIonoKlobuchar fIonoSbas fAntennaWarn
    fGalE1 fGpsL1 fGpsL2 fGpsL5 = true
  deriving DecidableEq, Repr

/-- The default instance (R6, R82, R87): the defaults the spec gives and marks "from general knowledge, not in source".
PRESUMED, unsafe for a statement that rests on them: log 4. -/
def Params.default : Params where
  msgidPosition := 42
  msgidVersion := 37
  fGlide := 0x01
  fIonoKlobuchar := 0x02
  fIonoSbas := 0x04
  fAntennaWarn := 0x20
  fGalE1 := 0x01
  fGpsL1 := 0x01
  fGpsL2 := 0x02
  fGpsL5 := 0x04
  admissible := by decide

end Sys2Proof
end

