-- ==== Sys2Proof/Syntax.lean ====
section
/-! DEFINITION. The operations of the core, one constructor per row of spec/opcode_table.json (spec/30_encoding.md R88 to
R91), and the names their selectors use. -/

namespace Sys2Proof

/-- The nine values of the scanner state register `st` (R20). Codes 9 to 15 are never taken, so they have no name. -/
inductive ScanState where
  | idle | wantSync1 | wantSync2 | wantSync3 | wantHeaderLen | headerRest | body | trailer | decode
  deriving DecidableEq, Repr

/-- The byte source's answer to one read (R121). -/
inductive Response where
  | data (b : Byte)
  | timeout
  | error
  deriving DecidableEq, Repr

/-- The operations. A scanner operation carries its data byte where its row leaves the byte open; a host operation
carries the CTRL value as `TMO_EN` and the six ignored bits 7:2; an internal operation carries the operands of its rule. -/
inductive Instr where
  -- scanner: selected by a byte-source response (R88)
  | rxTimeout
  | rxError
  | sync1Match
  | sync1Skip (b : Byte)
  | sync2Match
  | sync2Reanchor
  | sync2Reset (b : Byte)
  | sync3Match
  | sync3Reanchor
  | sync3Reset (b : Byte)
  | hlenAccept (b : Byte)
  | hlenReject (b : Byte)
  | hdrByte (b : Byte)
  | hdrLast (b : Byte)
  | bodyByte (b : Byte)
  | bodyLast (b : Byte)
  | trlByte (b : Byte)
  | trlAccept (b : Byte)
  | trlMismatch (b : Byte)
  -- decode: state DECODE, no input (R89)
  | decStep
  | decDispatch
  | decPos
  | decVer
  | decIntegrity
  | decOther
  -- host: a write of CTRL (R90)
  | ctrlStart (tmoEn : Bool) (ignored : BitVec 6)
  | ctrlCfg (tmoEn : Bool) (ignored : BitVec 6)
  -- internal: invoked by the rules above, selected by no word (R91)
  | crcXform (i : Byte)
  | crcStep (a : Word) (b : Byte)
  | crcBlock (data : List Byte)
  | crcInit (b : Byte)
  | crcCheck (trl acc : Word)
  | asciiTrim (field : List Byte)
  | flagTest (v m : Byte)
  | lutSolstat (code : Int)
  | lutPostype (code : Int)
  | lutDatum (code : Int)
  | lutComptype (code : Int)
  deriving DecidableEq, Repr

end Sys2Proof
end

