-- ==== Sys2Proof/WellFormed.lean ====
section
/-! DEFINITION. The conditions the opcode table and the rules put on an operation's operands alone
(the condition column of spec/30_encoding.md R88 where it names only the byte; R104, R180, R200). -/

namespace Sys2Proof

/-- Is the operation's operand one its row or rule admits? -/
def Instr.wellFormed : Instr → Bool
  | .rxTimeout => true
  | .rxError => true
  | .sync1Match => true
  | .sync1Skip b => b != Config.sync1
  | .sync2Match => true
  | .sync2Reanchor => true
  | .sync2Reset b => b != Config.sync2 && b != Config.sync1
  | .sync3Match => true
  | .sync3Reanchor => true
  | .sync3Reset b => b != Config.sync3 && b != Config.sync1
  | .hlenAccept b => decide (Config.hdrMin ≤ b.toNat)
  | .hlenReject b => decide (b.toNat < Config.hdrMin)
  | .hdrByte _ => true
  | .hdrLast _ => true
  | .bodyByte _ => true
  | .bodyLast _ => true
  | .trlByte _ => true
  | .trlAccept _ => true
  | .trlMismatch _ => true
  | .decStep => true
  | .decDispatch => true
  | .decPos => true
  | .decVer => true
  | .decIntegrity => true
  | .decOther => true
  | .ctrlStart _ _ => true
  | .ctrlCfg _ _ => true
  | .crcXform _ => true
  | .crcStep _ _ => true
  | .crcBlock _ => true
  | .crcInit b => b == Config.sync1
  | .crcCheck _ _ => true
  | .asciiTrim f => f.length == 4 || f.length == 12 || f.length == 16
  | .flagTest _ _ => true
  | .lutSolstat c => isI32 c
  | .lutPostype c => isI32 c
  | .lutDatum c => isI32 c
  | .lutComptype c => isI32 c

end Sys2Proof
end

