-- ==== Sys2Proof/Decode.lean ====
section
/-! DEFINITION. The selectors of spec/30_encoding.md section 5: which operation a byte-source response (R88), a message
type (R89, R161) or a CTRL value (R90) chooses, and the encoder from the same tables. Every selector either chooses an
operation or is rejected by name. -/

namespace Sys2Proof

/-- Why a selector chooses no operation. -/
inductive DecodeError where
  /-- `kind = 3`, which never occurs (R88, R92). -/
  | reservedKind
  /-- A state code 9 to 15, which never occurs (R20, R92). -/
  | reservedState
  /-- A data response in IDLE or DECODE, where no read is outstanding (R121). -/
  | noReadOutstanding
  /-- A nonzero byte with a Timeout or an Error: "the data byte when `kind = 0`; 0 otherwise" (R88). -/
  | byteWithoutData
  /-- No row's register condition holds; R88 shows that this never happens in a run. -/
  | noRow
  /-- Bits above the 14 of the scanner selector are set, or the bytes are of no selector's length. -/
  | notASelector
  deriving DecidableEq, Repr

/-- The registers the condition column of R88 names. -/
structure Conds where
  idx : Nat
  hlen : Nat
  blen : Nat
  tcnt : Nat
  trl : Word
  acc : Word
  deriving DecidableEq, Repr

/-- The code of a scanner state (R20). -/
def codeOfState : ScanState → BitVec 4
  | .idle => 0
  | .wantSync1 => 1
  | .wantSync2 => 2
  | .wantSync3 => 3
  | .wantHeaderLen => 4
  | .headerRest => 5
  | .body => 6
  | .trailer => 7
  | .decode => 8

/-- The scanner state of a code; none for the codes never taken (R20). -/
def stateOfCode (c : BitVec 4) : Option ScanState :=
  match c.toNat with
  | 0 => some .idle
  | 1 => some .wantSync1
  | 2 => some .wantSync2
  | 3 => some .wantSync3
  | 4 => some .wantHeaderLen
  | 5 => some .headerRest
  | 6 => some .body
  | 7 => some .trailer
  | 8 => some .decode
  | _ => none

/-- A word that selects an operation: the 14-bit scanner selector or the 8-bit CTRL value. -/
inductive Selector where
  | response (w : BitVec 14)
  | ctrl (w : BitVec 8)
  deriving DecidableEq, Repr

/-- The 14-bit selector word from its fields `kind`, `st` and `byte` (R88). -/
def selectorWord (kind : BitVec 2) (st : BitVec 4) (b : Byte) : BitVec 14 := kind ++ st ++ b

/-- The selector word that a response forms in a state (R88). -/
def selectorOf (r : Response) (st : ScanState) : BitVec 14 :=
  match r with
  | .data b => selectorWord 0 (codeOfState st) b
  | .timeout => selectorWord 1 (codeOfState st) 0
  | .error => selectorWord 2 (codeOfState st) 0

/-- The trailer assembled with its last byte, `trl | byte << 24` (R88, R139). -/
def fullTrailer (trl : Word) (b : Byte) : Word := trl ||| (b.setWidth 32 <<< 24)

/-- The row a data byte chooses in each state, by byte and register condition in priority order (R88). -/
def decodeData (c : Conds) (st : ScanState) (b : Byte) : Except DecodeError Instr :=
  match st with
  | .idle => .error .noReadOutstanding
  | .wantSync1 => .ok (if b = Config.sync1 then .sync1Match else .sync1Skip b)
  | .wantSync2 =>
    .ok (if b = Config.sync2 then .sync2Match else if b = Config.sync1 then .sync2Reanchor else .sync2Reset b)
  | .wantSync3 =>
    .ok (if b = Config.sync3 then .sync3Match else if b = Config.sync1 then .sync3Reanchor else .sync3Reset b)
  | .wantHeaderLen => .ok (if Config.hdrMin ≤ b.toNat then .hlenAccept b else .hlenReject b)
  | .headerRest =>
    if c.idx + 1 < c.hlen then .ok (.hdrByte b)
    else if c.idx + 1 = c.hlen then .ok (.hdrLast b) else .error .noRow
  | .body =>
    if c.idx + 1 < c.hlen + c.blen then .ok (.bodyByte b)
    else if c.idx + 1 = c.hlen + c.blen then .ok (.bodyLast b) else .error .noRow
  | .trailer =>
    if c.tcnt < 3 then .ok (.trlByte b)
    else if c.tcnt = 3 then .ok (if fullTrailer c.trl b = c.acc then .trlAccept b else .trlMismatch b)
    else .error .noRow
  | .decode => .error .noReadOutstanding

/-- The operation a scanner selector word chooses (R88, R92). The table leaves the state out of the match of RX.TIMEOUT
and RX.ERROR, so here any named state passes and their meanings check it (log 16). -/
def decodeResponse (c : Conds) (w : BitVec 14) : Except DecodeError Instr :=
  let kind : BitVec 2 := w.extractLsb' 12 2
  let b : Byte := w.extractLsb' 0 8
  match stateOfCode (w.extractLsb' 8 4) with
  | none => .error .reservedState
  | some st =>
    if kind = 0 then decodeData c st b
    else if kind = 3 then .error .reservedKind
    else if b ≠ 0 then .error .byteWithoutData
    else if kind = 1 then .ok .rxTimeout
    else .ok .rxError

/-- The operation a CTRL value chooses: bit 0 selects, bit 1 is TMO_EN, bits 7:2 are carried and ignored (R90). -/
def decodeCtrl (w : BitVec 8) : Instr :=
  if w.getLsbD 0 then .ctrlStart (w.getLsbD 1) (w.extractLsb' 2 6)
  else .ctrlCfg (w.getLsbD 1) (w.extractLsb' 2 6)

/-- The operation a message type chooses in state DECODE; the two tests of R162 are handed in (R89, R161). -/
def decodeMessage (p : Params) (mt : BitVec 16) (posFits verFits : Bool) : Instr :=
  if mt = p.msgidPosition then (if posFits then .decPos else .decIntegrity)
  else if mt = p.msgidVersion then (if verFits then .decVer else .decIntegrity)
  else .decOther

/-- The operation a selector chooses. -/
def decode (c : Conds) : Selector → Except DecodeError Instr
  | .response w => decodeResponse c w
  | .ctrl w => .ok (decodeCtrl w)

/-- A selector laid out as bytes, the less significant byte first: one byte is a CTRL value, two are a scanner selector
whose two upper bits are zero. -/
def selectorOfBytes : List Byte → Except DecodeError Selector
  | [w] => .ok (.ctrl w)
  | [lo, hi] => if hi.extractLsb' 6 2 = 0 then .ok (.response (hi.extractLsb' 0 6 ++ lo)) else .error .notASelector
  | _ => .error .notASelector

/-- The decoder on bytes: total, and rejecting by name. -/
def decodeBytes (c : Conds) (bytes : List Byte) : Except DecodeError Instr :=
  match selectorOfBytes bytes with
  | .ok sel => decode c sel
  | .error e => .error e

/-- A CTRL value from its fields (R90). -/
def ctrlWord (start tmoEn : Bool) (ignored : BitVec 6) : BitVec 8 :=
  ignored ++ BitVec.ofBool tmoEn ++ BitVec.ofBool start

/-- The encoder, from the tables of R88 and R90. The decode and internal rows have no word of their own (R89, R91): a
message type lies in the frame buffer and internal operations are invoked by other rules. RX.TIMEOUT and RX.ERROR are
encoded in WANT_SYNC1, one of the states their rows leave open (log 16). -/
def encode : Instr → Option Selector
  | .rxTimeout => some (.response (selectorOf .timeout .wantSync1))
  | .rxError => some (.response (selectorOf .error .wantSync1))
  | .sync1Match => some (.response (selectorOf (.data Config.sync1) .wantSync1))
  | .sync1Skip b => some (.response (selectorOf (.data b) .wantSync1))
  | .sync2Match => some (.response (selectorOf (.data Config.sync2) .wantSync2))
  | .sync2Reanchor => some (.response (selectorOf (.data Config.sync1) .wantSync2))
  | .sync2Reset b => some (.response (selectorOf (.data b) .wantSync2))
  | .sync3Match => some (.response (selectorOf (.data Config.sync3) .wantSync3))
  | .sync3Reanchor => some (.response (selectorOf (.data Config.sync1) .wantSync3))
  | .sync3Reset b => some (.response (selectorOf (.data b) .wantSync3))
  | .hlenAccept b => some (.response (selectorOf (.data b) .wantHeaderLen))
  | .hlenReject b => some (.response (selectorOf (.data b) .wantHeaderLen))
  | .hdrByte b => some (.response (selectorOf (.data b) .headerRest))
  | .hdrLast b => some (.response (selectorOf (.data b) .headerRest))
  | .bodyByte b => some (.response (selectorOf (.data b) .body))
  | .bodyLast b => some (.response (selectorOf (.data b) .body))
  | .trlByte b => some (.response (selectorOf (.data b) .trailer))
  | .trlAccept b => some (.response (selectorOf (.data b) .trailer))
  | .trlMismatch b => some (.response (selectorOf (.data b) .trailer))
  | .decStep => none
  | .decDispatch => none
  | .decPos => none
  | .decVer => none
  | .decIntegrity => none
  | .decOther => none
  | .ctrlStart t r => some (.ctrl (ctrlWord true t r))
  | .ctrlCfg t r => some (.ctrl (ctrlWord false t r))
  | .crcXform _ => none
  | .crcStep _ _ => none
  | .crcBlock _ => none
  | .crcInit _ => none
  | .crcCheck _ _ => none
  | .asciiTrim _ => none
  | .flagTest _ _ => none
  | .lutSolstat _ => none
  | .lutPostype _ => none
  | .lutDatum _ => none
  | .lutComptype _ => none

/-- The register condition of the operation's row (the condition column of R88 where it names a register). -/
def rowCondition (c : Conds) : Instr → Bool
  | .hdrByte _ => decide (c.idx + 1 < c.hlen)
  | .hdrLast _ => decide (c.idx + 1 = c.hlen)
  | .bodyByte _ => decide (c.idx + 1 < c.hlen + c.blen)
  | .bodyLast _ => decide (c.idx + 1 = c.hlen + c.blen)
  | .trlByte _ => decide (c.tcnt < 3)
  | .trlAccept b => decide (c.tcnt = 3) && decide (fullTrailer c.trl b = c.acc)
  | .trlMismatch b => decide (c.tcnt = 3) && decide (fullTrailer c.trl b ≠ c.acc)
  | .rxTimeout => true
  | .rxError => true
  | .sync1Match => true
  | .sync1Skip _ => true
  | .sync2Match => true
  | .sync2Reanchor => true
  | .sync2Reset _ => true
  | .sync3Match => true
  | .sync3Reanchor => true
  | .sync3Reset _ => true
  | .hlenAccept _ => true
  | .hlenReject _ => true
  | .decStep => true
  | .decDispatch => true
  | .decPos => true
  | .decVer => true
  | .decIntegrity => true
  | .decOther => true
  | .ctrlStart _ _ => true
  | .ctrlCfg _ _ => true
  | .crcXform _ => true
  | .crcStep _ _ => true
  | .crcBlock _ => true
  | .crcInit _ => true
  | .crcCheck _ _ => true
  | .asciiTrim _ => true
  | .flagTest _ _ => true
  | .lutSolstat _ => true
  | .lutPostype _ => true
  | .lutDatum _ => true
  | .lutComptype _ => true

/-- The registers under which a table word is read on its own: a candidate with a 10-byte header of which 4 bytes are
stored, and a trailer of which none is read. Rows that share a word then read as HDR.BYTE, BODY.BYTE and TRL.BYTE; no
word can tell them apart, their conditions name registers only. DESIGN CHOICE: log 9. -/
def tableConds : Conds := { idx := 4, hlen := 10, blen := 2, tcnt := 0, trl := 0, acc := 0 }

/-- The `n` low bytes of a number, the least significant first. -/
def bytesOfNat : Nat → Nat → List Byte
  | 0, _ => []
  | n + 1, w => BitVec.ofNat 8 w :: bytesOfNat n (w / 256)

/-- The decoder on a word of the opcode table, numbered as the table numbers it: one byte for a row of up to 8 bits,
two for a row of up to 16. -/
def decodeTableWord (nbits w : Nat) : Option Instr :=
  match decodeBytes tableConds (bytesOfNat ((nbits + 7) / 8) w) with
  | .ok i => if w < 2 ^ nbits then some i else none
  | .error _ => none

end Sys2Proof
end

