-- ==== Sys2Proof/Machine/State.lean ====
section
/-! DEFINITION. The machine's state: every element of spec/10_state.md R20 to R31, the environment's pending answers and
turns, and the model's own output ports; the reasons a step can stop; and the state after reset (R42). -/

namespace Sys2Proof.Machine

/-- The result codes of R28; code 7 is reserved and "never produced", so it has no name. -/
inductive ResCode where
  | none | position | version | unrecognized | integrity | timeout | transport
  deriving DecidableEq, Repr

/-- The position record (spec/42_field_decoder.md R170 to R172, R186). Codes are 32-bit signed values (R79), floats are
raw bit patterns (R80), an ASCII field is a byte string (R81), an unreported glide status is `none` (R186). -/
structure PositionRecord where
  solStatus : Int
  solStatusLabel : String
  posType : Int
  posTypeLabel : String
  lat : BitVec 64
  lon : BitVec 64
  hgt : BitVec 64
  undulation : BitVec 32
  datum : Int
  datumLabel : String
  latSd : BitVec 32
  lonSd : BitVec 32
  hgtSd : BitVec 32
  stnId : List Byte
  diffAge : BitVec 32
  solAge : BitVec 32
  numSvs : Byte
  numSolnSvs : Byte
  numSolnL1Svs : Byte
  numSolnMultiSvs : Byte
  extSolStat : Byte
  sigMaskGalBds : Byte
  sigMaskGpsGlo : Byte
  glide : Option Bool
  ionoKlobuchar : Bool
  ionoSbas : Bool
  ionoMultifreq : Bool
  antennaWarning : Bool
  galE1 : Bool
  bdsB1 : Bool
  bdsB2 : Bool
  gpsL1 : Bool
  gpsL2 : Bool
  gpsL5 : Bool
  gloL1 : Bool
  gloL2 : Bool
  deriving DecidableEq, Repr

/-- One component of a version record (R176). -/
structure ComponentRecord where
  compType : Int
  compTypeLabel : String
  model : List Byte
  serial : List Byte
  hwVersion : List Byte
  swVersion : List Byte
  bootVersion : List Byte
  compDate : List Byte
  compTime : List Byte
  deriving DecidableEq, Repr

/-- The version record (R175): the count as read, and the components in index order. -/
structure VersionRecord where
  count : Int
  components : List ComponentRecord
  deriving DecidableEq, Repr

/-- The record output register `rec` (R30). -/
inductive Record where
  | none
  | position (p : PositionRecord)
  | version (v : VersionRecord)
  deriving DecidableEq, Repr

/-- The sticky set `fault` of host protocol violations (R31): which of its two reasons it holds. -/
structure FaultSet where
  startWhileBusy : Bool
  frameReadOutOfRange : Bool
  deriving DecidableEq, Repr

/-- What a host access names (R34): a register number, a byte of the frame window, or the record port. -/
inductive Target where
  | reg (n : BitVec 8)
  | frame (i : Index)
  | record
  deriving DecidableEq, Repr

/-- One turn of the host (R238). `pass` is the host leaving the turn to the core: the list of turns is the interleaving
of host and core that R228 leaves open (log 2). -/
inductive HostTurn where
  | pass
  | read (t : Target)
  | write (t : Target) (w : Byte)
  | reset
  deriving DecidableEq, Repr

/-- What the last host read gave back (R238): nothing, a register or frame byte as a 32-bit value, or the record. The
model's own port: log 12. -/
inductive Reply where
  | nothing
  | word (w : Word)
  | record (r : Record)
  deriving DecidableEq, Repr

/-- The value an internal operation returned when run as an operation of its own (R91). The model's own port: log 10. -/
inductive OpResult where
  | none
  | word (w : Word)
  | bool (b : Bool)
  | bytes (bs : List Byte)
  | label (l : String)
  deriving DecidableEq, Repr

/-- The frame buffer's contents: (index, byte) cells, indices strictly rising, only bytes that were written listed. An
unlisted byte holds no defined value (R27): log 6. -/
abbrev Memory := List Host.Cell

/-- The machine's state. The first fourteen fields are the spec's; `stream` and `host` are the environment's next moves
(logs 2 and 3), `reply` and `result` the model's output ports (logs 12 and 10), `cfg` the instance's open parameters
(log 4). -/
structure State where
  /-- `st`, the scanner state register (R20). -/
  st : ScanState
  /-- `tmo_en`: is a Timeout honoured in the current scan (R21)? -/
  tmoEn : Bool
  /-- `CTRL.TMO_EN` (R35). -/
  ctrlTmoEn : Bool
  /-- `hlen`, the candidate's header length (R22). -/
  hlen : BitVec 8
  /-- `blen`, the candidate's body length (R23). -/
  blen : BitVec 16
  /-- `idx`, the number of bytes stored (R24). -/
  idx : Index
  /-- `acc`, the running CRC (R25). -/
  acc : Word
  /-- `trl`, the trailer assembled so far (R26). -/
  trl : Word
  /-- `tcnt`, how many trailer bytes have been read (R26). -/
  tcnt : BitVec 3
  /-- `buf`, the frame buffer (R27). -/
  buf : Memory
  /-- `res`, the result code (R28). -/
  res : ResCode
  /-- `frame_len`, the length of the accepted frame (R29). -/
  frameLen : Index
  /-- `rec`, the record output register (R30). -/
  record : Record
  /-- `fault`, the sticky host protocol violations (R31). -/
  fault : FaultSet
  /-- The byte source's answers to the next reads, in stream order (R50, R121). -/
  stream : List Response
  /-- The host's next turns (R238, R228). -/
  host : List HostTurn
  /-- What the last host read gave back (R238). -/
  reply : Reply
  /-- What the last internal operation returned (R91). -/
  result : OpResult
  /-- The instance's open parameters (R6). No step writes them. -/
  cfg : Params
  deriving DecidableEq, Repr

/-- Why the machine stops with a fault. None of them is a fault reason of the spec (those are recorded in `State.fault`
and the machine goes on); each stands where the spec gives no value or calls the case a model error. -/
inductive Fault where
  /-- A byte that no write reached is read: it "holds no defined value" (R27). Raised by HDR.LAST, DEC.STEP,
  DEC.DISPATCH, the four decode rows and host reads, in states no run reaches. Safe (log 6). -/
  | unwrittenByte
  /-- A byte is stored at an index from 65790 on, which does not exist (R51). Raised by every operation that stores, in
  states no run reaches. Safe (log 15). -/
  | bufferOverrun
  /-- A field getter outside the frame: "a model error, not an outcome" (R163). Raised by DEC.STEP, DEC.DISPATCH, DEC.POS
  and DEC.VER in states no run reaches. Safe (log 15). -/
  | getterNotAdmitted
  deriving DecidableEq, Repr

/-- Why a step or an operation has no meaning. -/
inductive Refusal where
  /-- An operation of the opcode table whose meaning is not written. Raised by exec's refused arms. Safe. -/
  | notModelled (mnemonic : String)
  /-- A scanner or decode operation asked for outside its rule's Operands line (R123, R161): no selector chooses it
  there. Raised by every scanner and decode operation; never by a step. Safe (log 8). -/
  | notSelected
  /-- A Timeout response while `tmo_en = 0`: "not admissible; the byte source has no such move" (R92, R121). Raised by
  RX.TIMEOUT. Safe. -/
  | timeoutInadmissible
  /-- A selector that chooses no operation (R92). Raised by the step, in states no run reaches. Safe (log 8). -/
  | undecodable (e : DecodeError)
  deriving DecidableEq, Repr

/-- The state after reset (R42, R260): every element at the value R42 gives; `buf` unspecified, so nothing is listed; no
pending input and empty ports (the model's fields, DESIGN CHOICE: logs 2, 3, 10, 12); the default instance (log 4). -/
def State.reset : State where
  st := .idle
  tmoEn := true
  ctrlTmoEn := true
  hlen := 0
  blen := 0
  idx := 0
  acc := 0
  trl := 0
  tcnt := 0
  buf := []
  res := .none
  frameLen := 0
  record := .none
  fault := { startWhileBusy := false, frameReadOutOfRange := false }
  stream := []
  host := []
  reply := .nothing
  result := .none
  cfg := Params.default

end Sys2Proof.Machine
end

