-- ==== Sys2Proof/Machine/Ops.lean ====
section
/-! DEFINITION. The shared operations: the frame buffer, the CRC functions of spec/40_crc.md, the procedures ANCHOR, STORE
and DROP of spec/41_frame_scanner.md R122, starting a scan (R120), ending one (the entry of an outcome,
spec/60_exceptions.md R230), and recording a host fault (R226). -/

namespace Sys2Proof.Machine

/-- What every operation and step answers. -/
abbrev Result := Host.Outcome State Fault Refusal

/-! ### The frame buffer (R27, R51) -/

/-- The byte at an index; none where nothing was written ("holds no defined value", R27). -/
def Memory.byte? (m : Memory) (a : Nat) : Option Byte :=
  match m with
  | [] => none
  | (k, v) :: rest => if k = a then some v else Memory.byte? rest a

/-- `buf[a] <- b`, in the canonical order. -/
def Memory.write (m : Memory) (a : Nat) (b : Byte) : Memory :=
  match m with
  | [] => [(a, b)]
  | (k, v) :: rest =>
    if a < k then (a, b) :: (k, v) :: rest
    else if a = k then (a, b) :: rest
    else (k, v) :: Memory.write rest a b

/-- The canonical form: indices strictly rising, and every index one of the buffer's. -/
abbrev Memory.wf (m : Memory) : Prop :=
  m.Pairwise (fun x y => x.1 < y.1) ∧ ∀ c ∈ m, c.1 < Config.frameMax

/-- `MemRead(i, n) = buf[i .. i+n)` (R10); none if a byte of it holds no value. -/
def Memory.read (m : Memory) (i : Nat) : Nat → Option (List Byte)
  | 0 => some []
  | n + 1 =>
    match m.byte? i, Memory.read m (i + 1) n with
    | some b, some bs => some (b :: bs)
    | _, _ => none

/-- Little-endian assembly: the byte at the lower index is the less significant (R9, R53). -/
def assemble (w : Nat) : List Byte → BitVec w
  | [] => 0
  | b :: bs => b.setWidth w ||| (assemble w bs <<< 8)

/-- `le16(i)` (R9). -/
def Memory.le16 (m : Memory) (i : Nat) : Option (BitVec 16) := (m.read i 2).map (assemble 16)

/-! ### The CRC functions (spec/40_crc.md) -/

/-- One round of the transform: shift right, XOR the polynomial when the low bit was 1 (R101). -/
def crcRound (v : Word) : Word := if v.getLsbD 0 then (v >>> 1) ^^^ Config.crcPoly else v >>> 1

/-- `n` rounds (R101). -/
def crcRounds : Nat → Word → Word
  | 0, v => v
  | n + 1, v => crcRounds n (crcRound v)

/-- `T(i)`, the 8-round transform (R101). -/
def crcTransform (i : Byte) : Word := crcRounds 8 (i.setWidth 32)

/-- `step(a, b)`, one byte into the accumulator (R102). -/
def crcStep (a : Word) (b : Byte) : Word := (a >>> 8) ^^^ crcTransform (a.setWidth 8 ^^^ b)

/-- `crc32(s)` (R103): no initial and no final complement. -/
def crc32 (s : List Byte) : Word := s.foldl crcStep Config.crcInit

/-! ### The scanner's procedures (R122) -/

/-- `ANCHOR(b)`: the byte opens a new candidate, and the accumulator restarts with it (R122, R104). -/
def State.anchor (s : State) (b : Byte) : State :=
  { s with
    buf := s.buf.write 0 b
    idx := 1
    acc := crcStep Config.crcInit b
    hlen := 0
    blen := 0
    trl := 0
    tcnt := 0
    st := .wantSync2 }

/-- `STORE(b)` (R122). -/
def State.store (s : State) (b : Byte) : State :=
  { s with
    buf := s.buf.write s.idx.toNat b
    idx := s.idx + 1
    acc := crcStep s.acc b }

/-- `DROP` (R122): writes nothing to `buf`, `res`, `record` or `frameLen`. -/
def State.drop (s : State) : State :=
  { s with idx := 0, acc := 0, hlen := 0, blen := 0, trl := 0, tcnt := 0, st := .wantSync1 }

/-- `st <- S`. -/
def State.goto (s : State) (st : ScanState) : State := { s with st := st }

/-- Store a byte and go on; an index the buffer does not have faults (R51; log 15). -/
def withStored (s : State) (b : Byte) (k : State → Result) : Result :=
  if s.idx.toNat < Config.frameMax then k (s.store b) else .fault .bufferOverrun

/-- An operation runs when its Operands line holds; it is otherwise not the one a selector chooses (R123; log 8). -/
def whenSelected (selected : Bool) (o : Result) : Result := if selected then o else .refused .notSelected

/-- Continue with a value read from the buffer; a byte that holds no value faults (R27; log 6). -/
def withValue {α : Type} (v : Option α) (k : α → Result) : Result :=
  match v with
  | some a => k a
  | none => .fault .unwrittenByte

/-! ### Starting a scan, ending a scan, recording a host fault -/

/-- The writes of an accepted `START` (R120), with the value of TMO_EN that the write carries. -/
def State.startScan (s : State) (tmoEn : Bool) : State :=
  { s with
    tmoEn := tmoEn
    res := .none
    record := .none
    frameLen := 0
    idx := 0
    acc := 0
    hlen := 0
    blen := 0
    trl := 0
    tcnt := 0
    st := .wantSync1 }

/-- The entry of an outcome that ends a scan without a frame (codes 5 and 6 of R230; R141, R142): the candidate is
dropped, the code is written, no frame and no record remain, and the core is idle. -/
def State.endScan (s : State) (r : ResCode) : State :=
  { s.drop with res := r, frameLen := 0, record := .none, st := .idle }

/-- What a decode row writes: `res` and `record` (R160, codes 1 to 4 of R230); the frame stays as accepted. -/
def State.setOutcome (s : State) (r : ResCode) (out : Record) : State := { s with res := r, record := out }

/-- `CTRL.TMO_EN <- v` (R35, R143). -/
def State.setCtrlTmoEn (s : State) (v : Bool) : State := { s with ctrlTmoEn := v }

/-- `fault <- fault ∪ {StartWhileBusy}` (R35, R226). -/
def State.recordStartWhileBusy (s : State) : State := { s with fault := { s.fault with startWhileBusy := true } }

/-- `fault <- fault ∪ {FrameReadOutOfRange}` (R39, R226). -/
def State.recordFrameReadOutOfRange (s : State) : State :=
  { s with fault := { s.fault with frameReadOutOfRange := true } }

/-- The model's output port for an internal operation's value (R91; log 10). -/
def State.setResult (s : State) (r : OpResult) : State := { s with result := r }

/-- `acc <- v`. -/
def State.setAcc (s : State) (v : Word) : State := { s with acc := v }

/-- The model's port for what a host read gives back (R238; log 12). -/
def State.setReply (s : State) (r : Reply) : State := { s with reply := r }

/-- One answer of the byte source is taken (R50: each octet is delivered once). -/
def State.setStream (s : State) (rest : List Response) : State := { s with stream := rest }

/-- One turn of the host is taken. -/
def State.setHost (s : State) (rest : List HostTurn) : State := { s with host := rest }

/-- The reset action (R260, R261): every element of the core to its reset value in one step. It touches neither the byte
source nor the parameters; the host keeps its turns and what it has read (log 20). -/
def State.resetCore (s : State) : State :=
  { State.reset with stream := s.stream, host := s.host, reply := s.reply, cfg := s.cfg }

end Sys2Proof.Machine
end

