-- ==== Sys2Proof/Machine/CrcEngine.lean ====
section
/-! DEFINITION. The operations of spec/40_crc.md run as operations of their own (R91): a pure function hands its value to
the model's output port (log 10); CRC.STEP and CRC.INIT write the accumulator as they do for the scanner (log 11). -/

namespace Sys2Proof.Machine

/-- CRC.XFORM (R101): pure, returns `T(i)`. -/
def execCrcXform (i : Byte) (s : State) : Result := .next (s.setResult (.word (crcTransform i)))

/-- CRC.STEP (R102): returns `step(a, b)` and writes it to `acc`. -/
def execCrcStep (a : Word) (b : Byte) (s : State) : Result :=
  .next ((s.setAcc (crcStep a b)).setResult (.word (crcStep a b)))

/-- CRC.BLOCK (R103): pure, returns `crc32(data)`. -/
def execCrcBlock (data : List Byte) (s : State) : Result := .next (s.setResult (.word (crc32 data)))

/-- CRC.INIT (R104): the accumulator restarts at `CRC_INIT` and takes the byte. -/
def execCrcInit (b : Byte) (s : State) : Result := .next (s.setAcc (crcStep Config.crcInit b))

/-- CRC.CHECK (R105): pure, returns whether trailer and accumulator are equal. -/
def execCrcCheck (trl acc : Word) (s : State) : Result := .next (s.setResult (.bool (decide (trl = acc))))

end Sys2Proof.Machine
end

