-- ==== Sys2Proof/Machine/EnumTables.lean ====
section
/-! DEFINITION. The four lookups of spec/43_enum_tables.md, R200 to R205: total, with a default label; the entries are
parameters (Config, log 5). As operations of their own they hand the label to the model's output port (log 10). -/

namespace Sys2Proof.Machine

/-- The label a finite map gives a code, if it has the code as a key (R200). The keys of a table are distinct (R205), so
which of two equal keys counts is never asked. -/
def lookup (entries : List (Int × String)) (code : Int) : Option String :=
  match entries with
  | [] => none
  | (k, label) :: rest => if k = code then some label else lookup rest code

/-- The entries of `LUT_POSTYPE`: `16 ↦ "SINGLE"` in every instance, the rest open (R202, R205). -/
def postypeEntries : List (Int × String) := Config.postypeTable.toLabelTable.entries

/-- `LUT.SOLSTAT(code)` (R201). -/
def solstatLabel (code : Int) : String := (lookup Config.solstatEntries code).getD "Unknown solution status"

/-- `LUT.POSTYPE(code)` (R202). -/
def postypeLabel (code : Int) : String := (lookup postypeEntries code).getD "UNKNOWN"

/-- `LUT.DATUM(code)` (R203). -/
def datumLabel (code : Int) : String := (lookup Config.datumEntries code).getD "UNKNOWN DATUM"

/-- `LUT.COMPTYPE(code)` (R204). -/
def comptypeLabel (code : Int) : String := (lookup Config.comptypeEntries code).getD "Unknown component"

/-- LUT.SOLSTAT (R201). -/
def execLutSolstat (code : Int) (s : State) : Result := .next (s.setResult (.label (solstatLabel code)))

/-- LUT.POSTYPE (R202). -/
def execLutPostype (code : Int) (s : State) : Result := .next (s.setResult (.label (postypeLabel code)))

/-- LUT.DATUM (R203). -/
def execLutDatum (code : Int) (s : State) : Result := .next (s.setResult (.label (datumLabel code)))

/-- LUT.COMPTYPE (R204). -/
def execLutComptype (code : Int) (s : State) : Result := .next (s.setResult (.label (comptypeLabel code)))

end Sys2Proof.Machine
end

