-- ==== Sys2Proof/Machine/Operands.lean ====
section
/-! DEFINITION. The operand forms: the field types of spec/30_encoding.md R78 to R81, read through the accessor layer of
spec/42_field_decoder.md R163, and the registers a selector's conditions read (R88). -/

namespace Sys2Proof.Machine

/-- The registers that the condition column of R88 reads. -/
def State.conds (s : State) : Conds :=
  { idx := s.idx.toNat
    hlen := s.hlen.toNat
    blen := s.blen.toNat
    tcnt := s.tcnt.toNat
    trl := s.trl
    acc := s.acc }

/-- Is a read outstanding? In the states 1 to 7 there is exactly one, in IDLE and DECODE none (R121). -/
def isReading : ScanState → Bool
  | .idle => false
  | .wantSync1 => true
  | .wantSync2 => true
  | .wantSync3 => true
  | .wantHeaderLen => true
  | .headerRest => true
  | .body => true
  | .trailer => true
  | .decode => false

/-- The message type code `MT = le16(4)` (R74). -/
def State.messageType (s : State) : Option (BitVec 16) := s.buf.le16 4

/-- The trim of an ASCII field: the bytes before the first `0x00`, or all of them (R180). -/
def asciiTrim : List Byte → List Byte
  | [] => []
  | b :: bs => if b = 0 then [] else b :: asciiTrim bs

/-- A getter: `n` bytes at body offset `off`, admitted only inside the frame (R163). -/
def State.field (s : State) (off n : Nat) : Except Fault (List Byte) :=
  if s.hlen.toNat + off + n ≤ s.frameLen.toNat then
    match s.buf.read (s.hlen.toNat + off) n with
    | some bs => .ok bs
    | none => .error .unwrittenByte
  else .error .getterNotAdmitted

/-- `get_u8` (R79). -/
def State.getU8 (s : State) (off : Nat) : Except Fault Byte := do
  let bs ← s.field off 1
  return assemble 8 bs

/-- `get_i32`: two's complement (R79, `sext_32` of R9). -/
def State.getI32 (s : State) (off : Nat) : Except Fault Int := do
  let bs ← s.field off 4
  return (assemble 32 bs).toInt

/-- `get_f32`: the raw 32-bit pattern (R80). -/
def State.getF32 (s : State) (off : Nat) : Except Fault (BitVec 32) := do
  let bs ← s.field off 4
  return assemble 32 bs

/-- `get_f64`: the raw 64-bit pattern (R80). -/
def State.getF64 (s : State) (off : Nat) : Except Fault (BitVec 64) := do
  let bs ← s.field off 8
  return assemble 64 bs

/-- `get_ascii_n`: the trimmed field (R81). -/
def State.getAscii (s : State) (n off : Nat) : Except Fault (List Byte) := do
  let bs ← s.field off n
  return asciiTrim bs

/-- Continue with a decoded value; a stop of the accessor layer is the operation's fault (R163). -/
def withDecoded {α : Type} (v : Except Fault α) (k : α → Result) : Result :=
  match v with
  | .ok a => k a
  | .error e => .fault e

/-- `PosFits()` (R162). -/
def State.posFits (s : State) : Bool := decide (Config.posBodyMin ≤ s.blen.toNat)

/-- Does a version body of `blen` bytes hold `count` components? Unbounded integers, so nothing wraps (R162, R11). -/
def countFits (blen : Nat) (count : Int) : Bool :=
  decide (count ≤ 0) || decide (4 + (Config.verRecLen : Int) * count ≤ (blen : Int))

/-- `VerFits()`; the count is read only when the body holds it (R162). -/
def State.verFits (s : State) : Except Fault Bool :=
  if 4 ≤ s.blen.toNat then do
    let count ← s.getI32 0
    return countFits s.blen.toNat count
  else .ok false

end Sys2Proof.Machine
end

