-- ==== Sys2Proof/Machine/Flags.lean ====
section
/-! DEFINITION. The flag test of spec/42_field_decoder.md R185 and the flags of a position record (R171, R172, R186) with
the masks of spec/30_encoding.md R87. The core itself has no condition flags (spec/10_state.md R33). -/

namespace Sys2Proof.Machine

/-- `flag(v, m) = ((v & m) = m)`: all bits of the mask must be set (R185). -/
def flagTest (v m : Byte) : Bool := decide (v &&& m = m)

/-- The glide status: reported only for the single-point position type (R171, R186). -/
def glideFlag (p : Params) (posType : Int) (e : Byte) : Option Bool :=
  if posType = Config.singleCode then some (flagTest e p.fGlide) else none

/-- Iono category 1 (R171). -/
def ionoKlobucharFlag (p : Params) (e : Byte) : Bool := flagTest e p.fIonoKlobuchar

/-- Iono category 2 (R171). -/
def ionoSbasFlag (p : Params) (e : Byte) : Bool := flagTest e p.fIonoSbas

/-- Iono category 3 (R171). -/
def ionoMultifreqFlag (e : Byte) : Bool := flagTest e Config.fIonoMultifreq

/-- The antenna warning (R171). -/
def antennaWarningFlag (p : Params) (e : Byte) : Bool := flagTest e p.fAntennaWarn

/-- The Galileo and BeiDou flags, against body byte 70 (R172). -/
def galE1Flag (p : Params) (g : Byte) : Bool := flagTest g p.fGalE1
def bdsB1Flag (g : Byte) : Bool := flagTest g Config.fBdsB1
def bdsB2Flag (g : Byte) : Bool := flagTest g Config.fBdsB2

/-- The GPS and GLONASS flags, against body byte 71 (R172). -/
def gpsL1Flag (p : Params) (n : Byte) : Bool := flagTest n p.fGpsL1
def gpsL2Flag (p : Params) (n : Byte) : Bool := flagTest n p.fGpsL2
def gpsL5Flag (p : Params) (n : Byte) : Bool := flagTest n p.fGpsL5
def gloL1Flag (n : Byte) : Bool := flagTest n Config.fGloL1
def gloL2Flag (n : Byte) : Bool := flagTest n Config.fGloL2

end Sys2Proof.Machine
end

