-- ==== Sys2Proof/Machine/FieldDecoder.lean ====
section
/-! DEFINITION. The field decoder of spec/42_field_decoder.md: the two record layouts (spec/30_encoding.md R83 to R85), the
decode step and its rows (R160 to R177), and the shared primitives run as operations of their own (R180, R185). A decode
row writes `res` and `record`; DEC.STEP then sets `st` to IDLE. -/

namespace Sys2Proof.Machine

/-- The position record of the accepted frame (R170, layout R83; body byte 68 is not read). -/
def State.positionRecord (s : State) : Except Fault PositionRecord := do
  let solStatus ← s.getI32 0
  let posType ← s.getI32 4
  let lat ← s.getF64 8
  let lon ← s.getF64 16
  let hgt ← s.getF64 24
  let undulation ← s.getF32 32
  let datum ← s.getI32 36
  let latSd ← s.getF32 40
  let lonSd ← s.getF32 44
  let hgtSd ← s.getF32 48
  let stnId ← s.getAscii 4 52
  let diffAge ← s.getF32 56
  let solAge ← s.getF32 60
  let numSvs ← s.getU8 64
  let numSolnSvs ← s.getU8 65
  let numSolnL1Svs ← s.getU8 66
  let numSolnMultiSvs ← s.getU8 67
  let e ← s.getU8 69
  let g ← s.getU8 70
  let n ← s.getU8 71
  return {
    solStatus := solStatus
    solStatusLabel := solstatLabel solStatus
    posType := posType
    posTypeLabel := postypeLabel posType
    lat := lat
    lon := lon
    hgt := hgt
    undulation := undulation
    datum := datum
    datumLabel := datumLabel datum
    latSd := latSd
    lonSd := lonSd
    hgtSd := hgtSd
    stnId := stnId
    diffAge := diffAge
    solAge := solAge
    numSvs := numSvs
    numSolnSvs := numSolnSvs
    numSolnL1Svs := numSolnL1Svs
    numSolnMultiSvs := numSolnMultiSvs
    extSolStat := e
    sigMaskGalBds := g
    sigMaskGpsGlo := n
    glide := glideFlag s.cfg posType e
    ionoKlobuchar := ionoKlobucharFlag s.cfg e
    ionoSbas := ionoSbasFlag s.cfg e
    ionoMultifreq := ionoMultifreqFlag e
    antennaWarning := antennaWarningFlag s.cfg e
    galE1 := galE1Flag s.cfg g
    bdsB1 := bdsB1Flag g
    bdsB2 := bdsB2Flag g
    gpsL1 := gpsL1Flag s.cfg n
    gpsL2 := gpsL2Flag s.cfg n
    gpsL5 := gpsL5Flag s.cfg n
    gloL1 := gloL1Flag n
    gloL2 := gloL2Flag n }

/-- `Comp(i)`: component `i` of the version body, field offsets relative to `108*i` (R176, conflict C2). -/
def State.component (s : State) (i : Nat) : Except Fault ComponentRecord := do
  let c := Config.verRecLen * i
  let compType ← s.getI32 (c + 4)
  let model ← s.getAscii 16 (c + 8)
  let serial ← s.getAscii 16 (c + 24)
  let hwVersion ← s.getAscii 16 (c + 40)
  let swVersion ← s.getAscii 16 (c + 56)
  let bootVersion ← s.getAscii 16 (c + 72)
  let compDate ← s.getAscii 12 (c + 88)
  let compTime ← s.getAscii 12 (c + 100)
  return {
    compType := compType
    compTypeLabel := comptypeLabel compType
    model := model
    serial := serial
    hwVersion := hwVersion
    swVersion := swVersion
    bootVersion := bootVersion
    compDate := compDate
    compTime := compTime }

/-- The components `i, i+1, …, i+n-1`, in index order (R175). -/
def State.components (s : State) (i : Nat) : Nat → Except Fault (List ComponentRecord)
  | 0 => .ok []
  | n + 1 => do
    let c ← s.component i
    let rest ← State.components s (i + 1) n
    return c :: rest

/-- The version record of the accepted frame (R175); a count of zero or less has no components (R177). -/
def State.versionRecord (s : State) : Except Fault VersionRecord := do
  let count ← s.getI32 0
  let components ← s.components 0 count.toNat
  return { count := count, components := components }

/-- DEC.POS (R170): selected in DECODE by `MSGID_POSITION` and a body of at least 72 bytes. -/
def execDecPos (s : State) : Result :=
  whenSelected (s.st == .decode) (withValue s.messageType fun mt =>
    whenSelected (mt == s.cfg.msgidPosition && s.posFits) (withDecoded s.positionRecord fun p =>
      .next (s.setOutcome .position (.position p))))

/-- DEC.VER (R175): selected in DECODE by `MSGID_VERSION` and a body that holds its components. -/
def execDecVer (s : State) : Result :=
  whenSelected (s.st == .decode) (withValue s.messageType fun mt =>
    whenSelected (mt == s.cfg.msgidVersion) (withDecoded s.verFits fun fits =>
      whenSelected fits (withDecoded s.versionRecord fun v =>
        .next (s.setOutcome .version (.version v)))))

/-- DEC.INTEGRITY (R162): selected in DECODE by either message type when its fit test is false. -/
def execDecIntegrity (s : State) : Result :=
  whenSelected (s.st == .decode) (withValue s.messageType fun mt =>
    if mt = s.cfg.msgidPosition then
      whenSelected (!s.posFits) (.next (s.setOutcome .integrity .none))
    else
      whenSelected (mt == s.cfg.msgidVersion) (withDecoded s.verFits fun fits =>
        whenSelected (!fits) (.next (s.setOutcome .integrity .none))))

/-- DEC.OTHER (R165): selected in DECODE by every other message type; no body byte is read. -/
def execDecOther (s : State) : Result :=
  whenSelected (s.st == .decode) (withValue s.messageType fun mt =>
    whenSelected (mt != s.cfg.msgidPosition && mt != s.cfg.msgidVersion)
      (.next (s.setOutcome .unrecognized .none)))

/-- DEC.DISPATCH (R161): the message type first, then the length test, choose exactly one row, which runs. The version
fit test is made for a version frame only. -/
def execDecDispatch (s : State) : Result :=
  whenSelected (s.st == .decode) (withValue s.messageType fun mt =>
    if mt = s.cfg.msgidPosition then
      if s.posFits then execDecPos s else execDecIntegrity s
    else if mt = s.cfg.msgidVersion then
      withDecoded s.verFits fun fits => if fits then execDecVer s else execDecIntegrity s
    else execDecOther s)

/-- Continue with the next state an operation answers. -/
def andThen (o : Result) (k : State → Result) : Result :=
  match o with
  | .next t => k t
  | .fault f => .fault f
  | .refused r => .refused r

/-- DEC.STEP (R160): the dispatched row writes `res` and `record`, then `st <- IDLE`. No byte of the stream is read. -/
def execDecStep (s : State) : Result :=
  andThen (execDecDispatch s) fun t => .next (t.goto .idle)

/-- ASCII.TRIM (R180): pure, returns the trimmed field. -/
def execAsciiTrim (field : List Byte) (s : State) : Result := .next (s.setResult (.bytes (asciiTrim field)))

/-- FLAG.TEST (R185): pure, returns whether all bits of the mask are set. -/
def execFlagTest (v m : Byte) (s : State) : Result := .next (s.setResult (.bool (flagTest v m)))

end Sys2Proof.Machine
end

