-- ==== Sys2Proof/Machine/HostCommands.lean ====
section
/-! DEFINITION. The two meanings of a CTRL write: CTRL.START (spec/41_frame_scanner.md R120) and CTRL.CFG (R143). Bits 7:2
of the value are ignored (spec/10_state.md R35). -/

namespace Sys2Proof.Machine

/-- CTRL.START (R120, R35): TMO_EN is written in every case; a busy core records StartWhileBusy and nothing else of the
scan changes. -/
def execCtrlStart (tmoEn : Bool) (_ignored : BitVec 6) (s : State) : Result :=
  if s.st = .idle then .next ((s.setCtrlTmoEn tmoEn).startScan tmoEn)
  else .next (s.setCtrlTmoEn tmoEn).recordStartWhileBusy

/-- CTRL.CFG (R143): only CTRL.TMO_EN is written; a scan keeps its latched `tmo_en`. -/
def execCtrlCfg (tmoEn : Bool) (_ignored : BitVec 6) (s : State) : Result :=
  .next (s.setCtrlTmoEn tmoEn)

end Sys2Proof.Machine
end

