-- ==== Sys2Proof/Machine/Scanner.lean ====
section
/-! DEFINITION. The scanner operations of spec/41_frame_scanner.md, R124 to R142. Each runs when its Operands line holds
(`whenSelected`); the response itself has been taken from the stream by the step that selected it. -/

namespace Sys2Proof.Machine

/-- SYNC1.SKIP (R124): the byte is consumed, nothing is written. -/
def execSync1Skip (b : Byte) (s : State) : Result :=
  whenSelected (s.st == .wantSync1 && b != Config.sync1) (.next s)

/-- SYNC1.MATCH (R125). -/
def execSync1Match (s : State) : Result :=
  whenSelected (s.st == .wantSync1) (.next (s.anchor Config.sync1))

/-- SYNC2.MATCH (R126). -/
def execSync2Match (s : State) : Result :=
  whenSelected (s.st == .wantSync2) (withStored s Config.sync2 fun t => .next (t.goto .wantSync3))

/-- SYNC2.REANCHOR (R127). -/
def execSync2Reanchor (s : State) : Result :=
  whenSelected (s.st == .wantSync2) (.next (s.anchor Config.sync1))

/-- SYNC2.RESET (R128). -/
def execSync2Reset (b : Byte) (s : State) : Result :=
  whenSelected (s.st == .wantSync2 && b != Config.sync2 && b != Config.sync1) (.next s.drop)

/-- SYNC3.MATCH (R129). -/
def execSync3Match (s : State) : Result :=
  whenSelected (s.st == .wantSync3) (withStored s Config.sync3 fun t => .next (t.goto .wantHeaderLen))

/-- SYNC3.REANCHOR (R130, decision D40): the new byte is the first of a new candidate. -/
def execSync3Reanchor (s : State) : Result :=
  whenSelected (s.st == .wantSync3) (.next (s.anchor Config.sync1))

/-- SYNC3.RESET (R131). -/
def execSync3Reset (b : Byte) (s : State) : Result :=
  whenSelected (s.st == .wantSync3 && b != Config.sync3 && b != Config.sync1) (.next s.drop)

/-- HLEN.ACCEPT (R132): a byte from 10 on is the header length, 0xAA among them. -/
def execHlenAccept (b : Byte) (s : State) : Result :=
  whenSelected (s.st == .wantHeaderLen && decide (Config.hdrMin ≤ b.toNat))
    (withStored s b fun t => .next { t with hlen := b, st := .headerRest })

/-- HLEN.REJECT (R133): the internal rejection ShortHeader, silent (R222). -/
def execHlenReject (b : Byte) (s : State) : Result :=
  whenSelected (s.st == .wantHeaderLen && decide (b.toNat < Config.hdrMin)) (.next s.drop)

/-- HDR.BYTE (R134). -/
def execHdrByte (b : Byte) (s : State) : Result :=
  whenSelected (s.st == .headerRest && decide (s.idx.toNat + 1 < s.hlen.toNat))
    (withStored s b fun t => .next t)

/-- HDR.LAST (R135): the body length is read from header bytes 8 and 9 after the store. -/
def execHdrLast (b : Byte) (s : State) : Result :=
  whenSelected (s.st == .headerRest && decide (s.idx.toNat + 1 = s.hlen.toNat))
    (withStored s b fun t =>
      withValue (t.buf.le16 8) fun bl =>
        .next { t with blen := bl, st := if 0 < bl.toNat then .body else .trailer })

/-- BODY.BYTE (R136). -/
def execBodyByte (b : Byte) (s : State) : Result :=
  whenSelected (s.st == .body && decide (s.idx.toNat + 1 < s.hlen.toNat + s.blen.toNat))
    (withStored s b fun t => .next t)

/-- BODY.LAST (R137). -/
def execBodyLast (b : Byte) (s : State) : Result :=
  whenSelected (s.st == .body && decide (s.idx.toNat + 1 = s.hlen.toNat + s.blen.toNat))
    (withStored s b fun t => .next (t.goto .trailer))

/-- TRL.BYTE (R138): trailer byte `tcnt` goes to bits `8*tcnt+7 : 8*tcnt`; neither `buf` nor `acc` changes. -/
def execTrlByte (b : Byte) (s : State) : Result :=
  whenSelected (s.st == .trailer && decide (s.tcnt.toNat < 3))
    (.next { s with trl := s.trl ||| (b.setWidth 32 <<< (8 * s.tcnt.toNat)), tcnt := s.tcnt + 1 })

/-- TRL.ACCEPT (R139): the frame is valid and its decode follows. -/
def execTrlAccept (b : Byte) (s : State) : Result :=
  whenSelected (s.st == .trailer && decide (s.tcnt.toNat = 3) && decide (fullTrailer s.trl b = s.acc))
    (.next { s with trl := fullTrailer s.trl b, tcnt := 4, frameLen := s.idx, st := .decode })

/-- TRL.MISMATCH (R140): the internal rejection ChecksumMismatch, silent (R221). -/
def execTrlMismatch (b : Byte) (s : State) : Result :=
  whenSelected (s.st == .trailer && decide (s.tcnt.toNat = 3) && decide (fullTrailer s.trl b ≠ s.acc))
    (.next s.drop)

/-- RX.TIMEOUT (R141): admissible only with `tmo_en = 1` (R121); a model refuses it otherwise (R92). -/
def execRxTimeout (s : State) : Result :=
  whenSelected (isReading s.st)
    (if s.tmoEn then .next (s.endScan .timeout) else .refused .timeoutInadmissible)

/-- RX.ERROR (R142): admissible whether or not `tmo_en = 1`. -/
def execRxError (s : State) : Result :=
  whenSelected (isReading s.st) (.next (s.endScan .transport))

end Sys2Proof.Machine
end

