-- ==== Sys2Proof/Machine/Dispatch.lean ====
section
/-! DEFINITION. One arm per operation of spec/opcode_table.json. -/

namespace Sys2Proof.Machine

/-- The meaning of an operation. -/
def exec (i : Instr) (s : State) : Host.Outcome State Fault Refusal :=
  match i with
  | .rxTimeout => Sys2Proof.Machine.execRxTimeout s
  | .rxError => Sys2Proof.Machine.execRxError s
  | .sync1Match => Sys2Proof.Machine.execSync1Match s
  | .sync1Skip b => Sys2Proof.Machine.execSync1Skip b s
  | .sync2Match => Sys2Proof.Machine.execSync2Match s
  | .sync2Reanchor => Sys2Proof.Machine.execSync2Reanchor s
  | .sync2Reset b => Sys2Proof.Machine.execSync2Reset b s
  | .sync3Match => Sys2Proof.Machine.execSync3Match s
  | .sync3Reanchor => Sys2Proof.Machine.execSync3Reanchor s
  | .sync3Reset b => Sys2Proof.Machine.execSync3Reset b s
  | .hlenAccept b => Sys2Proof.Machine.execHlenAccept b s
  | .hlenReject b => Sys2Proof.Machine.execHlenReject b s
  | .hdrByte b => Sys2Proof.Machine.execHdrByte b s
  | .hdrLast b => Sys2Proof.Machine.execHdrLast b s
  | .bodyByte b => Sys2Proof.Machine.execBodyByte b s
  | .bodyLast b => Sys2Proof.Machine.execBodyLast b s
  | .trlByte b => Sys2Proof.Machine.execTrlByte b s
  | .trlAccept b => Sys2Proof.Machine.execTrlAccept b s
  | .trlMismatch b => Sys2Proof.Machine.execTrlMismatch b s
  | .decStep => Sys2Proof.Machine.execDecStep s
  | .decDispatch => Sys2Proof.Machine.execDecDispatch s
  | .decPos => Sys2Proof.Machine.execDecPos s
  | .decVer => Sys2Proof.Machine.execDecVer s
  | .decIntegrity => Sys2Proof.Machine.execDecIntegrity s
  | .decOther => Sys2Proof.Machine.execDecOther s
  | .ctrlStart t r => Sys2Proof.Machine.execCtrlStart t r s
  | .ctrlCfg t r => Sys2Proof.Machine.execCtrlCfg t r s
  | .crcXform idx => Sys2Proof.Machine.execCrcXform idx s
  | .crcStep a b => Sys2Proof.Machine.execCrcStep a b s
  | .crcBlock d => Sys2Proof.Machine.execCrcBlock d s
  | .crcInit b => Sys2Proof.Machine.execCrcInit b s
  | .crcCheck t a => Sys2Proof.Machine.execCrcCheck t a s
  | .asciiTrim f => Sys2Proof.Machine.execAsciiTrim f s
  | .flagTest v m => Sys2Proof.Machine.execFlagTest v m s
  | .lutSolstat c => Sys2Proof.Machine.execLutSolstat c s
  | .lutPostype c => Sys2Proof.Machine.execLutPostype c s
  | .lutDatum c => Sys2Proof.Machine.execLutDatum c s
  | .lutComptype c => Sys2Proof.Machine.execLutComptype c s

end Sys2Proof.Machine
end

