-- ==== Sys2Proof/Machine/HostBus.lean ====
section
/-! DEFINITION. The host register interface of spec/10_state.md R34 to R41: what a read of each target gives back, and the
writes that are ignored. A write of CTRL is an operation of the opcode table (HostCommands.lean). -/

namespace Sys2Proof.Machine

/-- The number of a result code (R28). -/
def codeOfRes : ResCode → BitVec 3
  | .none => 0
  | .position => 1
  | .version => 2
  | .unrecognized => 3
  | .integrity => 4
  | .timeout => 5
  | .transport => 6

/-- `CTRL` as read: START and the reserved bits read 0, bit 1 is TMO_EN (R35). -/
def State.ctrlReg (s : State) : Byte := (0 : BitVec 6) ++ BitVec.ofBool s.ctrlTmoEn ++ (0 : BitVec 1)

/-- `STATUS`: bits 2:0 RES, bit 3 BUSY, bits 7:4 ST (R36). -/
def State.statusReg (s : State) : Byte :=
  codeOfState s.st ++ BitVec.ofBool (s.st != .idle) ++ codeOfRes s.res

/-- `HDR_LEN` (R38). -/
def State.hdrLenReg (s : State) : BitVec 8 := if s.frameLen = 0 then 0 else s.hlen

/-- `BODY_LEN` (R38). -/
def State.bodyLenReg (s : State) : BitVec 16 := if s.frameLen = 0 then 0 else s.blen

/-- `MSG_TYPE` (R38). -/
def State.msgTypeReg (s : State) : Option (BitVec 16) := if s.frameLen = 0 then some 0 else s.messageType

/-- A register as the host reads it, zero-extended to 32 bits; the numbers 0x06 to 0xFF read as 0 (R34). -/
def State.regValue (s : State) (n : BitVec 8) : Option Word :=
  match n.toNat with
  | 0 => some (s.ctrlReg.setWidth 32)
  | 1 => some (s.statusReg.setWidth 32)
  | 2 => some (s.frameLen.setWidth 32)
  | 3 => some (s.hdrLenReg.setWidth 32)
  | 4 => some (s.bodyLenReg.setWidth 32)
  | 5 => s.msgTypeReg.map (·.setWidth 32)
  | _ => some 0

/-- A host read of a register: no side effect (R41). -/
def hostReadReg (s : State) (n : BitVec 8) : Result :=
  withValue (s.regValue n) fun v => .next (s.setReply (.word v))

/-- A host read of `FRAME[i]`: the byte below `frame_len`, else no value and the fault FrameReadOutOfRange (R39). -/
def hostReadFrame (s : State) (i : Index) : Result :=
  if i.toNat < s.frameLen.toNat then
    withValue (s.buf.byte? i.toNat) fun b => .next (s.setReply (.word (b.setWidth 32)))
  else .next (s.recordFrameReadOutOfRange.setReply .nothing)

/-- A host read of `RECORD` (R40). -/
def hostReadRecord (s : State) : Result := .next (s.setReply (.record s.record))

/-- A host read (R238). -/
def hostRead (s : State) : Target → Result
  | .reg n => hostReadReg s n
  | .frame i => hostReadFrame s i
  | .record => hostReadRecord s

/-- Is a write to the target a write of CTRL? Every other target is read-only or reserved, and its writes are ignored
(R41). -/
def isCtrl (t : Target) : Bool := t == .reg 0

end Sys2Proof.Machine
end

