-- ==== Sys2Proof/Machine/Fetch.lean ====
section
/-! DEFINITION. Who moves next and what is selected: the host's next turn, or the core's, whose operation is chosen by the
byte source's answer (spec/41_frame_scanner.md R121, R123) or is the decode step (spec/42_field_decoder.md R160). -/

namespace Sys2Proof.Machine

/-- What a step found to do. -/
inductive Fetched where
  /-- An operation of the opcode table, to run on a state from which its input has been taken. -/
  | run (i : Instr) (s : State)
  /-- Something that is no operation of the table: a host access, a reset, a hold, or a selector no row covers. -/
  | done (o : Result)

/-- The core's move (R121, R160, R20): the decode step in DECODE; in the states 1 to 7 the operation that the byte
source's next answer selects; with no read outstanding or no answer, a hold that changes nothing (log 3). -/
def coreFetch (s : State) : Fetched :=
  if s.st = .decode then .run .decStep s
  else if isReading s.st then
    match s.stream with
    | [] => .done (.next s)
    | r :: rest =>
      match decode s.conds (.response (selectorOf r s.st)) with
      | .ok i => .run i (s.setStream rest)
      | .error e => .done (.refused (.undecodable e))
  else .done (.next s)

/-- A host access that is a turn (R238): a CTRL write selects an operation (R90), every other write is ignored (R41),
reads give their value back, reset takes the core to its reset state (R260). -/
def hostFetch (s : State) : HostTurn → Fetched
  | .pass => coreFetch s
  | .read t => .done (hostRead s t)
  | .write t w => if isCtrl t then .run (decodeCtrl w) s else .done (.next s)
  | .reset => .done (.next s.resetCore)

/-- The next move: the host's next turn, or the core's when no turn is listed (R228; log 2). -/
def fetch (s : State) : Fetched :=
  match s.host with
  | [] => coreFetch s
  | turn :: rest => hostFetch (s.setHost rest) turn

/-- The registers under which a table word is read on its own (Decode.lean, `tableConds`), for the states whose rows
name registers (log 9). -/
def State.withTableConds (s : State) : State :=
  { s with idx := 4, hlen := 10, blen := 2, tcnt := 0, trl := 0, acc := 0 }

/-- The state in which the scanner selector `w` is the next one formed: the host passes, the selector's state is entered
and the byte source's next answer is the selector's. Where the word leaves the state open (RX.TIMEOUT, RX.ERROR), a
state with no read outstanding is replaced by WANT_SYNC1; a Timeout is made admissible. A word that selects nothing (R92:
`kind = 3`, a state code 9 to 15; a data byte in IDLE or DECODE; a byte beside a Timeout or Error) cannot be formed by any
state and answer, so the nearest one that can be is placed: an Error for `kind = 3`, WANT_SYNC1 for the state, no byte; the
next step then runs that row, while the decoder refuses the word itself. DESIGN CHOICE: log 22. -/
def placeResponse (s : State) (w : BitVec 14) : State :=
  let kind : BitVec 2 := w.extractLsb' 12 2
  let st := (stateOfCode (w.extractLsb' 8 4)).getD .idle
  let entered : State := s.goto (if isReading st then st else .wantSync1)
  let ready : State :=
    match entered.st with
    | .idle => entered
    | .wantSync1 => entered
    | .wantSync2 => { entered with idx := 1 }
    | .wantSync3 => { entered with idx := 2 }
    | .wantHeaderLen => { entered with idx := 3 }
    | .headerRest => entered.withTableConds
    | .body => entered.withTableConds
    | .trailer => entered.withTableConds
    | .decode => entered
  let answer : Response :=
    if kind = 0 then .data (w.extractLsb' 0 8) else if kind = 1 then .timeout else .error
  let admitted : State := if kind = 1 then { ready with tmoEn := true } else ready
  { admitted with host := .pass :: s.host, stream := answer :: s.stream }

/-- The state in which the host's next turn writes `w` to CTRL. -/
def placeCtrl (s : State) (w : Byte) : State := { s with host := .write (.reg 0) w :: s.host }

/-- `s` with the selector `w` of the opcode table placed where the next step finds it (log 1): a word of up to 8 bits is
a CTRL value the host writes, a longer one a scanner selector; number bits above the 8 or 14 are dropped (log 22). -/
def placeWord (s : State) (nbits w : Nat) : State :=
  if nbits ≤ 8 then placeCtrl s (BitVec.ofNat 8 w) else placeResponse s (BitVec.ofNat 14 w)

end Sys2Proof.Machine
end

