-- ==== Sys2Proof/Machine/Step.lean ====
section
/-! DEFINITION. One step of the machine: the next move is found (Fetch.lean) and, if it is an operation, run. -/

namespace Sys2Proof.Machine

/-- What was found is done: an operation runs, anything else has its outcome already. -/
def runFetched : Fetched → Host.Outcome State Fault Refusal
  | .run i t => exec i t
  | .done o => o

/-- One step: a host turn, or a move of the core. -/
def step (s : State) : Host.Outcome State Fault Refusal := runFetched (fetch s)

/-- `s` with a word of the opcode table placed so that the very next step runs it (Fetch.lean, `placeWord`; log 1). -/
def State.withFetchWord (s : State) (nbits w : Nat) : State := placeWord s nbits w

end Sys2Proof.Machine
end

