-- ==== Sys2Proof/Safety.lean ====
section
/-! DEFINITION. The words claims use: the end of a run (spec/60_exceptions.md R237), the accepted frame
(spec/41_frame_scanner.md R146), and the invariant of a run from reset, state by state (spec/10_state.md R25 to R30). -/

namespace Sys2Proof.Machine

/-- No host protocol violation is recorded (R31). -/
def FaultSet.empty (f : FaultSet) : Prop := f.startWhileBusy = false ∧ f.frameReadOutOfRange = false

/-- A completed scan: idle with an outcome. In a run, IDLE with a result code other than RES_NONE is reached only by
R141, R142 or R160, and the state after reset is none (R237). DEDUCED: log 21. -/
def State.completedScan (s : State) : Prop := s.st = .idle ∧ s.res ≠ .none

/-- A good completed scan: "It is *good* if `fault` is empty" (R237). -/
def State.goodScan (s : State) : Prop := s.completedScan ∧ s.fault.empty

/-- The first four bytes of a candidate with header length `L`: the preamble and the length byte (R71, R72). -/
def headerHead (l : Byte) : List Byte := [Config.sync1, Config.sync2, Config.sync3, l]

/-- `bs` is the candidate stored so far: `buf[0 .. idx) = bs`, and the accumulator is its CRC (R24, R25). -/
def State.holds (s : State) (bs : List Byte) : Prop :=
  s.buf.read 0 bs.length = some bs ∧ s.idx.toNat = bs.length ∧ s.acc = crc32 bs

/-- No length is known and no trailer byte read: the registers as ANCHOR leaves them (R122). -/
def State.fresh (s : State) : Prop := s.hlen = 0 ∧ s.blen = 0 ∧ s.trl = 0 ∧ s.tcnt = 0

/-- The header length is legal and the candidate starts with the preamble and that length (R71, R72). -/
def State.headerKnown (s : State) (bs : List Byte) : Prop :=
  Config.hdrMin ≤ s.hlen.toNat ∧ bs.take 4 = headerHead s.hlen

/-- The body length is the field of the header (R73). -/
def State.bodyKnown (s : State) : Prop := s.buf.le16 8 = some s.blen

/-- The accepted frame (R146): `buf[0 .. frame_len)` is a header and a body of the lengths it declares, and its CRC is the
trailer. -/
def State.accepted (s : State) : Prop :=
  ∃ bs, s.holds bs ∧ s.headerKnown bs ∧ s.bodyKnown ∧ bs.length = s.hlen.toNat + s.blen.toNat ∧
    s.frameLen.toNat = bs.length ∧ s.trl = s.acc ∧ s.tcnt = 4

/-- What each scanner state says of the candidate (R20 to R26). -/
def State.candidateInv (s : State) : Prop :=
  match s.st with
  | .idle => True
  | .wantSync1 => s.idx = 0 ∧ s.acc = 0 ∧ s.fresh
  | .wantSync2 => s.holds [Config.sync1] ∧ s.fresh
  | .wantSync3 => s.holds [Config.sync1, Config.sync2] ∧ s.fresh
  | .wantHeaderLen => s.holds [Config.sync1, Config.sync2, Config.sync3] ∧ s.fresh
  | .headerRest =>
    ∃ bs, s.holds bs ∧ s.headerKnown bs ∧ 4 ≤ bs.length ∧ bs.length < s.hlen.toNat ∧
      s.blen = 0 ∧ s.trl = 0 ∧ s.tcnt = 0
  | .body =>
    ∃ bs, s.holds bs ∧ s.headerKnown bs ∧ s.bodyKnown ∧ s.hlen.toNat ≤ bs.length ∧
      bs.length < s.hlen.toNat + s.blen.toNat ∧ s.trl = 0 ∧ s.tcnt = 0
  | .trailer =>
    ∃ bs, s.holds bs ∧ s.headerKnown bs ∧ s.bodyKnown ∧ bs.length = s.hlen.toNat + s.blen.toNat ∧
      s.tcnt.toNat ≤ 3 ∧ s.trl.toNat < 2 ^ (8 * s.tcnt.toNat)
  | .decode => s.frameLen ≠ 0

/-- The result codes that leave a frame readable (R29). -/
def hasFrame : ResCode → Bool
  | .none => false
  | .position => true
  | .version => true
  | .unrecognized => true
  | .integrity => true
  | .timeout => false
  | .transport => false

/-- What the record register holds under each result code: the record the frame in `buf` decodes to, for the codes 1
and 2, and nothing otherwise (R30). -/
def State.recordInv (s : State) : Prop :=
  match s.res with
  | .none => s.record = .none
  | .position => ∃ p, s.record = .position p ∧ s.positionRecord = .ok p
  | .version => ∃ v, s.record = .version v ∧ s.versionRecord = .ok v
  | .unrecognized => s.record = .none
  | .integrity => s.record = .none
  | .timeout => s.record = .none
  | .transport => s.record = .none

/-- What the output registers say (R28 to R30): outside IDLE there is no result; while bytes are read there is no frame;
in IDLE there is a frame exactly for the codes 1 to 4; a frame is an accepted one. -/
def State.outputInv (s : State) : Prop :=
  (s.st ≠ .idle → s.res = .none) ∧ (isReading s.st = true → s.frameLen = 0) ∧
    (s.st = .idle → (s.frameLen ≠ 0 ↔ hasFrame s.res = true)) ∧ (s.frameLen ≠ 0 → s.accepted) ∧ s.recordInv

/-- The invariant of every run from reset. -/
def State.Inv (s : State) : Prop := s.buf.wf ∧ s.candidateInv ∧ s.outputInv

end Sys2Proof.Machine
end

