-- ==== Sys2Proof/Certificates/Slice0/Obligations.lean ====
section
/-! DEFINITION. The statements for the provers, in the spec's terms. A docstring names the rule a statement formalises, and
the log entry where a clause is the model's own. -/

namespace Sys2Proof.Certificates

open Sys2Proof.Machine

/-- The buffer `m'` is `m` with the byte `b` at index `a`, said through the read of every index. -/
def writtenAt (m m' : Memory) (a : Nat) (b : Byte) : Prop :=
  ∀ x, m'.byte? x = if x = a then some b else m.byte? x

/-- The bytes of the frame window are `f`'s. -/
def frameIs (s : State) (f : Nat → Byte) : Prop := ∀ a, a < s.frameLen.toNat → s.buf.byte? a = some (f a)

/-- The accepted frame's lengths: `frame_len = L + B`. -/
def frameLengths (s : State) : Prop := s.frameLen.toNat = s.hlen.toNat + s.blen.toNat

/-- Little-endian values of the bytes from `i` on, the byte at the highest index the most significant (R9). -/
def word16 (f : Nat → Byte) (i : Nat) : BitVec 16 := f (i + 1) ++ f i
def word32 (f : Nat → Byte) (i : Nat) : BitVec 32 := f (i + 3) ++ f (i + 2) ++ f (i + 1) ++ f i
def word64 (f : Nat → Byte) (i : Nat) : BitVec 64 :=
  f (i + 7) ++ f (i + 6) ++ f (i + 5) ++ f (i + 4) ++ f (i + 3) ++ f (i + 2) ++ f (i + 1) ++ f i

/-- An ASCII field of `n` bytes: those before the first zero (R81, R180). -/
def text (f : Nat → Byte) (i n : Nat) : List Byte := ((List.range n).map fun k => f (i + k)).takeWhile (· != 0)

/-- `l` is the label of `code` in a table: the first entry's with that key, and the default if there is none (R200). -/
def isLabel (entries : List (Int × String)) (fallback : String) (code : Int) (l : String) : Prop :=
  ((∀ e ∈ entries, e.1 ≠ code) → l = fallback) ∧
    ∀ before label after, entries = before ++ (code, label) :: after → (∀ e ∈ before, e.1 ≠ code) → l = label

/-- The number of a result code, from the table of R28. -/
def resNumber : ResCode → Nat
  | .none => 0
  | .position => 1
  | .version => 2
  | .unrecognized => 3
  | .integrity => 4
  | .timeout => 5
  | .transport => 6

/-- The code of a scanner state, from the table of R20. -/
def stateNumber : ScanState → Nat
  | .idle => 0
  | .wantSync1 => 1
  | .wantSync2 => 2
  | .wantSync3 => 3
  | .wantHeaderLen => 4
  | .headerRest => 5
  | .body => 6
  | .trailer => 7
  | .decode => 8

/-- The body length fits the message type (R162), in unbounded integers. -/
def versionFits (blen : Nat) (count : Int) : Prop := 4 ≤ blen ∧ (count ≤ 0 ∨ 4 + 108 * count ≤ (blen : Int))

/-- The four bytes of a word, least significant first. -/
def le32bytes (w : Word) : List Byte :=
  [w.extractLsb' 0 8, w.extractLsb' 8 8, w.extractLsb' 16 8, w.extractLsb' 24 8]

/-- `header ‖ body` of one frame on the wire (R70 to R73). -/
def isRawFrame (frame : List Byte) : Prop :=
  ∃ l lo hi : Byte, frame.take 3 = [0xAA, 0x44, 0x12] ∧ frame[3]? = some l ∧ frame[8]? = some lo ∧
    frame[9]? = some hi ∧ 10 ≤ l.toNat ∧ frame.length = l.toNat + (lo.toNat + 256 * hi.toNat)

/-- The host's next turn is a CTRL write of `w`. -/
def writesCtrl (s : State) (w : Byte) : Prop := s.host.head? = some (.write (.reg 0) w)

/-- The host's next turn asserts reset. -/
def asserts (s : State) : Prop := s.host.head? = some .reset

/-- The candidate's registers are cleared and the scanner waits for a sync byte 1 (DROP, R122). -/
def dropped (s : State) : State :=
  { s with idx := 0, acc := 0, hlen := 0, blen := 0, trl := 0, tcnt := 0, st := .wantSync1 }

end Sys2Proof.Certificates

open Sys2Proof Sys2Proof.Machine Sys2Proof.Certificates

/-! ### CRC engine -/

/-- R101: `T` is eight rounds of shift and conditional XOR, linear over XOR, with its two corner values; CRC.XFORM hands
it back (the port is log 10). -/
def Obligations.CrcXformIsLinear : Prop :=
  ∀ (a b : Byte) (s : State),
    exec (.crcXform (a ^^^ b)) s = .next { s with result := .word (crcTransform a ^^^ crcTransform b) } ∧
    crcTransform a =
      (fun v : Word => if v.getLsbD 0 then (v >>> 1) ^^^ 0xEDB88320 else v >>> 1)^[8] (a.setWidth 32) ∧
    crcTransform 0x00 = 0x00000000 ∧ crcTransform 0x80 = 0xEDB88320

/-- R102: CRC.STEP gives `(a >> 8) ^ T(a[7:0] ^ b)`, to the port and to `acc` (logs 10 and 11), and changes nothing else. -/
def Obligations.CrcStepWritesAccumulator : Prop :=
  ∀ (a : Word) (b : Byte) (s : State), ∃ v : Word,
    exec (.crcStep a b) s = .next { s with acc := v, result := .word v } ∧
    v = (a >>> 8) ^^^ crcTransform (a.extractLsb' 0 8 ^^^ b) ∧ (∀ k, 24 ≤ k → (a >>> 8).getLsbD k = false)

/-- R103, R100: `crc32` starts from 0, takes the bytes in order and complements nothing; leading zero bytes do not change
it; it is linear; and its check value. The spec marks the last three "derived: from rules R101 to R103". -/
def Obligations.Crc32IsLinearFold : Prop :=
  crc32 [] = 0 ∧ (∀ bs b, crc32 (bs ++ [b]) = crcStep (crc32 bs) b) ∧
    (∀ k bs, crc32 (List.replicate k 0 ++ bs) = crc32 bs) ∧
    (∀ l m : List Byte, l.length = m.length → crc32 (List.zipWith (· ^^^ ·) l m) = crc32 l ^^^ crc32 m) ∧
    crc32 [0x31, 0x32, 0x33, 0x34, 0x35, 0x36, 0x37, 0x38, 0x39] = 0x2DFD2D88

/-- R107, R105: a trailer makes the residue zero exactly when it is the checksum, so the residue test and the comparison of
R105 are equivalent. The spec marks both "derived". -/
def Obligations.ResidueIsZeroExactlyForTheChecksum : Prop :=
  ∀ (bs : List Byte) (t : Word), crc32 (bs ++ le32bytes t) = 0 ↔ t = crc32 bs

/-- R106: starting from all ones and complementing the end is this CRC of the sequence with its first four bytes
complemented, complemented at the end. -/
def Obligations.IeeeConventionsDifferByFourBytes : Prop :=
  ∀ (b0 b1 b2 b3 : Byte) (rest : List Byte),
    (b0 :: b1 :: b2 :: b3 :: rest).foldl crcStep 0xFFFFFFFF ^^^ 0xFFFFFFFF =
      crc32 ((b0 ^^^ 0xFF) :: (b1 ^^^ 0xFF) :: (b2 ^^^ 0xFF) :: (b3 ^^^ 0xFF) :: rest) ^^^ 0xFFFFFFFF

/-- R103 to R105 as operations: CRC.BLOCK and CRC.CHECK hand their value to the port (log 10), CRC.INIT restarts `acc`
with the byte (log 11); nothing else changes. -/
def Obligations.CrcBlockInitCheckComplete : Prop :=
  ∀ (s : State) (bs : List Byte) (b : Byte) (t a : Word),
    exec (.crcBlock (bs ++ [b])) s = .next { s with result := .word (crcStep (crc32 bs) b) } ∧
    exec (.crcBlock []) s = .next { s with result := .word 0 } ∧
    exec (.crcInit b) s = .next { s with acc := crcTransform b } ∧
    exec (.crcInit 0xAA) s = .next { s with acc := 0x36034AF6 } ∧
    (∃ r, exec (.crcCheck t a) s = .next { s with result := .bool r } ∧ (r = true ↔ t = a))

/-! ### Shared decoding primitives and lookups -/

/-- R180: the trim keeps the bytes before the first zero, or all of them; ASCII.TRIM hands it back (log 10). -/
def Obligations.AsciiTrimStopsAtFirstZero : Prop :=
  ∀ (field : List Byte) (s : State), ∃ out,
    exec (.asciiTrim field) s = .next { s with result := .bytes out } ∧
    ((∀ b ∈ field, b ≠ 0) → out = field) ∧
    ∀ before after, field = before ++ 0 :: after → (∀ b ∈ before, b ≠ 0) → out = before

/-- R185: a flag is active exactly when every bit of its mask is set; FLAG.TEST hands it back (log 10). -/
def Obligations.FlagActiveWhenEveryMaskBitIsSet : Prop :=
  ∀ (v m : Byte) (s : State), ∃ r,
    exec (.flagTest v m) s = .next { s with result := .bool r } ∧
    (r = true ↔ ∀ k, k < 8 → m.getLsbD k = true → v.getLsbD k = true)

/-- R200 to R204: every code has a label, its entry's or the table's default; position type 16 is "SINGLE" (the entries
are open, log 5; the port is log 10). -/
def Obligations.LookupsAreTotalWithDefaults : Prop :=
  ∀ (code : Int) (s : State), ∃ l1 l2 l3 l4 : String,
    exec (.lutSolstat code) s = .next { s with result := .label l1 } ∧
    isLabel Config.solstatEntries "Unknown solution status" code l1 ∧
    exec (.lutPostype code) s = .next { s with result := .label l2 } ∧
    isLabel ((16, "SINGLE") :: Config.postypeOthers) "UNKNOWN" code l2 ∧ (code = 16 → l2 = "SINGLE") ∧
    exec (.lutDatum code) s = .next { s with result := .label l3 } ∧
    isLabel Config.datumEntries "UNKNOWN DATUM" code l3 ∧
    exec (.lutComptype code) s = .next { s with result := .label l4 } ∧
    isLabel Config.comptypeEntries "Unknown component" code l4

/-- R205, R263: every table of the type the parameters have maps distinct 32-bit signed codes, so each entry is found under
its key; a code outside that range has the default label of every lookup; no entry of the position-type table gives 16
another label than "SINGLE" (the entries are open, log 5; the port is log 10). -/
def Obligations.TablesMapDistinctSignedCodes : Prop :=
  (∀ (t : LabelTable) (code : Int) (label : String), (code, label) ∈ t.entries →
    lookup t.entries code = some label ∧ -2147483648 ≤ code ∧ code ≤ 2147483647) ∧
  (∀ (code : Int) (s : State), (code < -2147483648 ∨ 2147483647 < code) →
    exec (.lutSolstat code) s = .next { s with result := .label "Unknown solution status" } ∧
    exec (.lutPostype code) s = .next { s with result := .label "UNKNOWN" } ∧
    exec (.lutDatum code) s = .next { s with result := .label "UNKNOWN DATUM" } ∧
    exec (.lutComptype code) s = .next { s with result := .label "Unknown component" }) ∧
  ∀ label, (16, label) ∈ postypeEntries → label = "SINGLE"

/-! ### Selectors -/

/-- R88, R90: an operation that has a word is what its word decodes to, whatever the registers, when its row's conditions
hold. -/
def Obligations.DecodeOfEncodeGivesTheOperation : Prop :=
  ∀ (c : Conds) (i : Instr) (w : Selector),
    i.wellFormed = true → rowCondition c i = true → encode i = some w → decode c w = .ok i

/-- R88, R90: what a word decodes to is well-formed, meets its row's register condition, and has that word, but for the
state field that RX.TIMEOUT and RX.ERROR leave open (log 16). -/
def Obligations.EncodeOfDecodeGivesTheWord : Prop :=
  ∀ (c : Conds) (i : Instr) (w : Selector), decode c w = .ok i →
    i.wellFormed = true ∧ rowCondition c i = true ∧ (i ≠ .rxTimeout → i ≠ .rxError → encode i = some w)

/-- R92, R20: `kind = 3` and the state codes 9 to 15 select nothing. -/
def Obligations.ReservedSelectorsAreRejected : Prop :=
  ∀ (c : Conds) (kind : BitVec 2) (code : BitVec 4) (b : Byte), (kind = 3 ∨ 9 ≤ code.toNat) →
    decode c (.response (kind ++ code ++ b)) = .error .reservedKind ∨
      decode c (.response (kind ++ code ++ b)) = .error .reservedState

/-- Words written out from R88 and R90 decode to their rows. -/
def Obligations.WordsOfTheTablesDecode : Prop :=
  decodeBytes tableConds [0xAA, 0b00000001] = .ok .sync1Match ∧
    decodeBytes tableConds [0x13, 0b00000010] = .ok (.sync2Reset 0x13) ∧
    decodeBytes tableConds [0x1C, 0b00000100] = .ok (.hlenAccept 0x1C) ∧
    decodeBytes tableConds [0x00, 0b00010101] = .ok .rxTimeout ∧
    decodeBytes tableConds [0b00000011] = .ok (.ctrlStart true 0) ∧
    decodeBytes tableConds [0b11111100] = .ok (.ctrlCfg false 0b111111)

/-- R123: in a state of a run with a read outstanding, a response selects exactly one operation; Timeout and Error select
theirs in every state. -/
def Obligations.ExactlyOneRowAppliesToAResponse : Prop :=
  ∀ (s : State) (r : Response), s.Inv → isReading s.st = true →
    ∃ i, decode s.conds (.response (selectorOf r s.st)) = .ok i ∧
      i.wellFormed = true ∧ rowCondition s.conds i = true ∧
      (r = .timeout → i = .rxTimeout) ∧ (r = .error → i = .rxError) ∧
      ∀ j, encode j = some (.response (selectorOf r s.st)) → j.wellFormed = true →
        rowCondition s.conds j = true → j = i

/-! ### Steps -/

/-- R121, R123, R160: the core's step takes one answer and runs the operation it selects; in DECODE it runs the decode
step with no input. The host's turn `pass`, or no turn listed, leaves the move to the core (log 2). -/
def Obligations.StepRunsTheSelectedOperation : Prop :=
  ∀ (s : State) (turns : List HostTurn), (s.host = .pass :: turns ∨ s.host = [] ∧ turns = []) →
    (∀ r rest i, isReading s.st = true → s.stream = r :: rest →
      decode s.conds (.response (selectorOf r s.st)) = .ok i →
      step s = exec i { s with host := turns, stream := rest }) ∧
    (s.st = .decode → step s = exec .decStep { s with host := turns })

/-- R90: a host write of CTRL runs CTRL.START when bit 0 of the value is 1 and CTRL.CFG when it is 0, with bit 1 as
TMO_EN and the other bits ignored. -/
def Obligations.CtrlWriteRunsStartOrCfg : Prop :=
  ∀ (s : State) (turns : List HostTurn) (w : Byte) (any : BitVec 6), s.host = .write (.reg 0) w :: turns →
    step s = if w.getLsbD 0 then exec (.ctrlStart (w.getLsbD 1) any) { s with host := turns }
      else exec (.ctrlCfg (w.getLsbD 1) any) { s with host := turns }

/-- R121: in IDLE, and in a reading state with no answer from the byte source, the core's step changes nothing but the
host's turn (a hold is a next state: log 3). -/
def Obligations.CoreHoldsUntilAnAnswer : Prop :=
  ∀ (s : State) (turns : List HostTurn), (s.host = .pass :: turns ∨ s.host = [] ∧ turns = []) →
    (s.st = .idle ∨ isReading s.st = true ∧ s.stream = []) → step s = .next { s with host := turns }

/-! ### Scanner operations -/

/-- R124: SYNC1.SKIP writes nothing; a step that takes such a byte consumes it and changes nothing else. -/
def Obligations.Sync1SkipWritesNothing : Prop :=
  ∀ (s : State) (b : Byte), s.st = .wantSync1 → b ≠ 0xAA →
    exec (.sync1Skip b) s = .next s ∧
    ∀ rest, s.host = [] → s.stream = .data b :: rest → step s = .next { s with stream := rest }

/-- R125, R130, R122: a sync byte 1 opens a new candidate in each of the three sync states. -/
def Obligations.SyncByteOneAnchors : Prop :=
  ∀ (s : State) (i : Instr),
    (i = .sync1Match ∧ s.st = .wantSync1 ∨ i = .sync2Reanchor ∧ s.st = .wantSync2 ∨
      i = .sync3Reanchor ∧ s.st = .wantSync3) →
    ∃ m, writtenAt s.buf m 0 0xAA ∧
      exec i s = .next { s with
        buf := m, idx := 1, acc := 0x36034AF6, hlen := 0, blen := 0, trl := 0, tcnt := 0, st := .wantSync2 }

/-- R127: SYNC2.REANCHOR writes what SYNC1.MATCH writes; in a run the state is left as it was, except that the byte is
consumed (the spec marks this "derived: from rule R122"). -/
def Obligations.Sync2ReanchorLeavesTheState : Prop :=
  ∀ s : State, s.st = .wantSync2 →
    (∃ m, writtenAt s.buf m 0 0xAA ∧ exec .sync2Reanchor s = .next { s with
      buf := m, idx := 1, acc := 0x36034AF6, hlen := 0, blen := 0, trl := 0, tcnt := 0, st := .wantSync2 }) ∧
    (s.Inv → exec .sync2Reanchor s = .next s ∧
      ∀ rest, s.host = [] → s.stream = .data 0xAA :: rest → step s = .next { s with stream := rest })

/-- R126, R129: SYNC2.MATCH and SYNC3.MATCH store their byte, feed it to the CRC and advance. -/
def Obligations.SyncMatchesStoreAndAdvance : Prop :=
  ∀ s : State, s.idx.toNat < 65790 →
    (s.st = .wantSync2 → ∃ m, writtenAt s.buf m s.idx.toNat 0x44 ∧
      exec .sync2Match s =
        .next { s with buf := m, idx := s.idx + 1, acc := crcStep s.acc 0x44, st := .wantSync3 }) ∧
    (s.st = .wantSync3 → ∃ m, writtenAt s.buf m s.idx.toNat 0x12 ∧
      exec .sync3Match s =
        .next { s with buf := m, idx := s.idx + 1, acc := crcStep s.acc 0x12, st := .wantHeaderLen })

/-- R132: every byte from 10 on is a header length; it is stored and latched. -/
def Obligations.HeaderLengthIsLatched : Prop :=
  ∀ (s : State) (b : Byte), s.st = .wantHeaderLen → 10 ≤ b.toNat → s.idx.toNat < 65790 →
    ∃ m, writtenAt s.buf m s.idx.toNat b ∧
      exec (.hlenAccept b) s =
        .next { s with buf := m, idx := s.idx + 1, acc := crcStep s.acc b, hlen := b, st := .headerRest }

/-- R134, R136, R137: HDR.BYTE, BODY.BYTE and BODY.LAST store their byte at `idx` and feed it to the CRC; BODY.LAST goes
on to the trailer. The rows' own conditions keep the index inside the buffer, up to `255 + 65535 - 1`. -/
def Obligations.HeaderAndBodyBytesAreStored : Prop :=
  ∀ (s : State) (b : Byte),
    (s.st = .headerRest → s.idx.toNat + 1 < s.hlen.toNat → ∃ m, writtenAt s.buf m s.idx.toNat b ∧
      exec (.hdrByte b) s = .next { s with buf := m, idx := s.idx + 1, acc := crcStep s.acc b }) ∧
    (s.st = .body → s.idx.toNat + 1 < s.hlen.toNat + s.blen.toNat → ∃ m, writtenAt s.buf m s.idx.toNat b ∧
      exec (.bodyByte b) s = .next { s with buf := m, idx := s.idx + 1, acc := crcStep s.acc b }) ∧
    (s.st = .body → s.idx.toNat + 1 = s.hlen.toNat + s.blen.toNat → ∃ m, writtenAt s.buf m s.idx.toNat b ∧
      exec (.bodyLast b) s =
        .next { s with buf := m, idx := s.idx + 1, acc := crcStep s.acc b, st := .trailer })

/-- R135: the last header byte is stored, the body length is bytes 8 and 9 of the header little-endian (one of them may be
the byte just stored), and an empty body goes straight to the trailer. -/
def Obligations.LastHeaderByteLatchesBodyLength : Prop :=
  ∀ (s : State) (b : Byte), s.st = .headerRest → 10 ≤ s.hlen.toNat → s.idx.toNat + 1 = s.hlen.toNat →
    (∀ a, a < s.idx.toNat → ∃ v, s.buf.byte? a = some v) →
    ∃ m lo hi, writtenAt s.buf m s.idx.toNat b ∧ m.byte? 8 = some lo ∧ m.byte? 9 = some hi ∧
      exec (.hdrLast b) s = .next { s with
        buf := m, idx := s.idx + 1, acc := crcStep s.acc b, blen := hi ++ lo,
        st := if (hi ++ lo : BitVec 16) = 0 then .trailer else .body }

/-- R138, R26: trailer byte `tcnt` is placed at bits `8*tcnt+7 : 8*tcnt` of `trl`; neither `buf` nor `acc` changes. -/
def Obligations.TrailerBytesAreAssembled : Prop :=
  ∀ (s : State) (b : Byte), s.st = .trailer → s.tcnt.toNat < 3 →
    ∃ v : Word, exec (.trlByte b) s = .next { s with trl := v, tcnt := s.tcnt + 1 } ∧
      ∀ j, v.getLsbD j = (s.trl.getLsbD j ||
        (decide (8 * s.tcnt.toNat ≤ j) && b.getLsbD (j - 8 * s.tcnt.toNat)))

/-- R139: the fourth trailer byte that completes the CRC accepts the frame: `frame_len` is its length, in a run
`hlen + blen`, and the decode follows. -/
def Obligations.MatchingTrailerAcceptsTheFrame : Prop :=
  ∀ (s : State) (b : Byte), s.st = .trailer → s.tcnt.toNat = 3 →
    s.trl ||| (b.setWidth 32 <<< 24) = s.acc →
    exec (.trlAccept b) s = .next { s with trl := s.acc, tcnt := 4, frameLen := s.idx, st := .decode } ∧
    (s.Inv → s.idx.toNat = s.hlen.toNat + s.blen.toNat)

/-- R128, R131, R133, R140: the four rejections drop the candidate and write nothing else. -/
def Obligations.RejectionsDropTheCandidate : Prop :=
  ∀ (s : State) (b : Byte),
    (s.st = .wantSync2 → b ≠ 0x44 → b ≠ 0xAA → exec (.sync2Reset b) s = .next (dropped s)) ∧
    (s.st = .wantSync3 → b ≠ 0x12 → b ≠ 0xAA → exec (.sync3Reset b) s = .next (dropped s)) ∧
    (s.st = .wantHeaderLen → b.toNat < 10 → exec (.hlenReject b) s = .next (dropped s)) ∧
    (s.st = .trailer → s.tcnt.toNat = 3 → s.trl ||| (b.setWidth 32 <<< 24) ≠ s.acc →
      exec (.trlMismatch b) s = .next (dropped s))

/-- R141, R142: a Timeout (with `tmo_en = 1`) and an Error end the scan in every state that reads, with their code, no
frame and no record. -/
def Obligations.TimeoutAndErrorEndTheScan : Prop :=
  ∀ s : State, isReading s.st = true →
    (s.tmoEn = true → exec .rxTimeout s =
      .next { dropped s with res := .timeout, frameLen := 0, record := .none, st := .idle }) ∧
    exec .rxError s =
      .next { dropped s with res := .transport, frameLen := 0, record := .none, st := .idle }

/-- R92, R121: a Timeout while `tmo_en = 0` and a read is outstanding is refused by name; in no state does any other
operation refuse so, nor RX.TIMEOUT otherwise. -/
def Obligations.TimeoutInDebugModeIsRefused : Prop :=
  (∀ s : State, isReading s.st = true → (exec .rxTimeout s = .refused .timeoutInadmissible ↔ s.tmoEn = false)) ∧
    ∀ (s : State) (i : Instr), exec i s = .refused .timeoutInadmissible →
      i = .rxTimeout ∧ isReading s.st = true ∧ s.tmoEn = false

/-! ### Host commands -/

/-- R120, R35: a START in IDLE clears the outputs and the candidate, latches TMO_EN and waits for sync byte 1; a START while
busy writes CTRL.TMO_EN and records StartWhileBusy, nothing else. -/
def Obligations.StartBeginsAScanOrRecordsAFault : Prop :=
  ∀ (s : State) (v : Bool) (ignored : BitVec 6),
    (s.st = .idle → exec (.ctrlStart v ignored) s = .next { s with
      ctrlTmoEn := v, tmoEn := v, res := .none, record := .none, frameLen := 0, idx := 0, acc := 0, hlen := 0,
      blen := 0, trl := 0, tcnt := 0, st := .wantSync1 }) ∧
    (s.st ≠ .idle → exec (.ctrlStart v ignored) s = .next { s with
      ctrlTmoEn := v, fault := { s.fault with startWhileBusy := true } })

/-- R143: CTRL.CFG writes CTRL.TMO_EN only, in every state. -/
def Obligations.CfgWritesTimeoutEnableOnly : Prop :=
  ∀ (s : State) (v : Bool) (ignored : BitVec 6), exec (.ctrlCfg v ignored) s = .next { s with ctrlTmoEn := v }

/-! ### Field decoder -/

/-- R165: a frame of any other type gives RES_UNRECOGNIZED and no record. -/
def Obligations.OtherTypesAreUnrecognized : Prop :=
  ∀ (s : State) (f : Nat → Byte), s.st = .decode → frameIs s f → 6 ≤ s.frameLen.toNat →
    word16 f 4 ≠ s.cfg.msgidPosition → word16 f 4 ≠ s.cfg.msgidVersion →
    exec .decOther s = .next { s with res := .unrecognized, record := .none }

/-- R162: a position or version frame whose body is shorter than its layout needs gives RES_INTEGRITY and no record; the
bound `4 + 108*count` never wraps. -/
def Obligations.ShortBodiesAreIntegrityViolations : Prop :=
  ∀ (s : State) (f : Nat → Byte), s.st = .decode → frameIs s f → frameLengths s → 10 ≤ s.hlen.toNat →
    (word16 f 4 = s.cfg.msgidPosition ∧ s.blen.toNat < 72 ∨
      word16 f 4 = s.cfg.msgidVersion ∧ ¬versionFits s.blen.toNat (word32 f s.hlen.toNat).toInt) →
    exec .decIntegrity s = .next { s with res := .integrity, record := .none }

/-- R170, R83: the fields of a position record, each from its body offset; each label is what its lookup hands to the
model's port (log 10). -/
def Obligations.PositionRecordFields : Prop :=
  ∀ (s : State) (f : Nat → Byte), s.st = .decode → frameIs s f → frameLengths s →
    word16 f 4 = s.cfg.msgidPosition → 72 ≤ s.blen.toNat →
    ∃ p, exec .decPos s = .next { s with res := .position, record := .position p } ∧
      p.solStatus = (word32 f (s.hlen.toNat + 0)).toInt ∧ p.posType = (word32 f (s.hlen.toNat + 4)).toInt ∧
      p.lat = word64 f (s.hlen.toNat + 8) ∧ p.lon = word64 f (s.hlen.toNat + 16) ∧
      p.hgt = word64 f (s.hlen.toNat + 24) ∧ p.undulation = word32 f (s.hlen.toNat + 32) ∧
      p.datum = (word32 f (s.hlen.toNat + 36)).toInt ∧ p.latSd = word32 f (s.hlen.toNat + 40) ∧
      p.lonSd = word32 f (s.hlen.toNat + 44) ∧ p.hgtSd = word32 f (s.hlen.toNat + 48) ∧
      p.stnId = text f (s.hlen.toNat + 52) 4 ∧ p.diffAge = word32 f (s.hlen.toNat + 56) ∧
      p.solAge = word32 f (s.hlen.toNat + 60) ∧ p.numSvs = f (s.hlen.toNat + 64) ∧
      p.numSolnSvs = f (s.hlen.toNat + 65) ∧ p.numSolnL1Svs = f (s.hlen.toNat + 66) ∧
      p.numSolnMultiSvs = f (s.hlen.toNat + 67) ∧ p.extSolStat = f (s.hlen.toNat + 69) ∧
      p.sigMaskGalBds = f (s.hlen.toNat + 70) ∧ p.sigMaskGpsGlo = f (s.hlen.toNat + 71) ∧
      exec (.lutSolstat p.solStatus) s = .next { s with result := .label p.solStatusLabel } ∧
      exec (.lutPostype p.posType) s = .next { s with result := .label p.posTypeLabel } ∧
      exec (.lutDatum p.datum) s = .next { s with result := .label p.datumLabel }

/-- R171, R172, R186: the flags of every position record DEC.POS writes, each from its own byte; the glide status is
reported for position type 16 only. -/
def Obligations.PositionRecordFlags : Prop :=
  ∀ (s t : State), exec .decPos s = .next t → ∃ p, t.record = .position p ∧
    p.glide = (if p.posType = 16 then some (decide (p.extSolStat &&& s.cfg.fGlide = s.cfg.fGlide)) else none) ∧
    p.ionoKlobuchar = decide (p.extSolStat &&& s.cfg.fIonoKlobuchar = s.cfg.fIonoKlobuchar) ∧
    p.ionoSbas = decide (p.extSolStat &&& s.cfg.fIonoSbas = s.cfg.fIonoSbas) ∧
    p.ionoMultifreq = decide (p.extSolStat &&& 0x06 = 0x06) ∧
    p.antennaWarning = decide (p.extSolStat &&& s.cfg.fAntennaWarn = s.cfg.fAntennaWarn) ∧
    p.galE1 = decide (p.sigMaskGalBds &&& s.cfg.fGalE1 = s.cfg.fGalE1) ∧
    p.bdsB1 = decide (p.sigMaskGalBds &&& 0x10 = 0x10) ∧ p.bdsB2 = decide (p.sigMaskGalBds &&& 0x20 = 0x20) ∧
    p.gpsL1 = decide (p.sigMaskGpsGlo &&& s.cfg.fGpsL1 = s.cfg.fGpsL1) ∧
    p.gpsL2 = decide (p.sigMaskGpsGlo &&& s.cfg.fGpsL2 = s.cfg.fGpsL2) ∧
    p.gpsL5 = decide (p.sigMaskGpsGlo &&& s.cfg.fGpsL5 = s.cfg.fGpsL5) ∧
    p.gloL1 = decide (p.sigMaskGpsGlo &&& 0x10 = 0x10) ∧ p.gloL2 = decide (p.sigMaskGpsGlo &&& 0x20 = 0x20)

/-- R175 to R177, R84, R85: a version frame whose body holds its components gives the count as read and one component per
index below it, each from its 108-byte record; a count of zero or less has none (the spec marks this "derived", decision
D17). The label is what the lookup hands to the model's port (log 10). -/
def Obligations.VersionRecordFields : Prop :=
  ∀ (s : State) (f : Nat → Byte), s.st = .decode → frameIs s f → frameLengths s → 10 ≤ s.hlen.toNat →
    word16 f 4 = s.cfg.msgidVersion → versionFits s.blen.toNat (word32 f s.hlen.toNat).toInt →
    ∃ v, exec .decVer s = .next { s with res := .version, record := .version v } ∧
      v.count = (word32 f s.hlen.toNat).toInt ∧ v.components.length = v.count.toNat ∧
      ∀ (i : Nat) (c : ComponentRecord), v.components[i]? = some c →
        c.compType = (word32 f (s.hlen.toNat + 108 * i + 4)).toInt ∧
        c.model = text f (s.hlen.toNat + 108 * i + 8) 16 ∧ c.serial = text f (s.hlen.toNat + 108 * i + 24) 16 ∧
        c.hwVersion = text f (s.hlen.toNat + 108 * i + 40) 16 ∧
        c.swVersion = text f (s.hlen.toNat + 108 * i + 56) 16 ∧
        c.bootVersion = text f (s.hlen.toNat + 108 * i + 72) 16 ∧
        c.compDate = text f (s.hlen.toNat + 108 * i + 88) 12 ∧
        c.compTime = text f (s.hlen.toNat + 108 * i + 100) 12 ∧
        exec (.lutComptype c.compType) s = .next { s with result := .label c.compTypeLabel }

/-- R161: for an accepted frame DEC.DISPATCH runs exactly one of the four rows, which answers a next state; the other three
are not selected (log 8). -/
def Obligations.DispatchRunsExactlyOneRow : Prop :=
  ∀ s : State, s.st = .decode → s.accepted →
    ∃ i ∈ [Instr.decPos, .decVer, .decIntegrity, .decOther],
      exec .decDispatch s = exec i s ∧
      (∃ r o, exec i s = .next { s with res := r, record := o }) ∧
      ∀ j ∈ [Instr.decPos, .decVer, .decIntegrity, .decOther], j ≠ i → exec j s = .refused .notSelected

/-- R160, R230: the decode step of an accepted frame always completes: the dispatched row's result is written, a frame
stays readable, the core is idle, and nothing else changes. -/
def Obligations.DecodeStepAlwaysCompletes : Prop :=
  ∀ s : State, s.st = .decode → s.accepted →
    ∃ r o, exec .decDispatch s = .next { s with res := r, record := o } ∧
      exec .decStep s = .next { s with res := r, record := o, st := .idle } ∧ hasFrame r = true

/-! ### The host register interface -/

/-- R36, R20, R28: STATUS reads RES in bits 2:0, BUSY in bit 3 and the code of the scanner state in bits 7:4, with the
numbers of R28 and R20; the read changes nothing but the host's turn and the reply port (log 12). -/
def Obligations.StatusReadsResultBusyAndState : Prop :=
  ∀ (s : State) (turns : List HostTurn), s.host = .read (.reg 1) :: turns →
    ∃ v : Word, step s = .next { s with host := turns, reply := .word v } ∧
      v.toNat = resNumber s.res + 8 * (if s.st = .idle then 0 else 1) + 16 * stateNumber s.st

/-- R37, R38: FRAME_LEN reads `frame_len`; HDR_LEN, BODY_LEN and MSG_TYPE read the accepted frame's while there is one, and
0 otherwise. -/
def Obligations.FrameRegistersReadTheAcceptedFrame : Prop :=
  ∀ (s : State) (turns : List HostTurn) (n : BitVec 8) (f : Nat → Byte), s.host = .read (.reg n) :: turns →
    frameIs s f → (s.frameLen = 0 ∨ 6 ≤ s.frameLen.toNat) → 2 ≤ n.toNat → n.toNat ≤ 5 →
    ∃ v : Word, step s = .next { s with host := turns, reply := .word v } ∧
      v.toNat = if n = 2 then s.frameLen.toNat else if s.frameLen = 0 then 0 else if n = 3 then s.hlen.toNat
        else if n = 4 then s.blen.toNat else (word16 f 4).toNat

/-- R39: a FRAME read below `frame_len` gives the byte; one at or above it gives no value and records
FrameReadOutOfRange; nothing else changes but the host's turn and the reply port, where the value stands (log 12). -/
def Obligations.FrameWindowReads : Prop :=
  ∀ (s : State) (turns : List HostTurn) (i : Index) (f : Nat → Byte), s.host = .read (.frame i) :: turns →
    frameIs s f →
    (i.toNat < s.frameLen.toNat →
      step s = .next { s with host := turns, reply := .word ((f i.toNat).setWidth 32) }) ∧
    (s.frameLen.toNat ≤ i.toNat → step s = .next { s with
      host := turns, reply := .nothing, fault := { s.fault with frameReadOutOfRange := true } })

/-- R35, R40, R34, R41: CTRL reads TMO_EN in bit 1 and 0 elsewhere, RECORD reads `rec`, the reserved numbers read 0 (the
values stand in the reply port, log 12), and a write to anything but CTRL is ignored (that FRAME[i] and RECORD are among
these is log 13). -/
def Obligations.CtrlRecordAndReservedAccesses : Prop :=
  ∀ (s : State) (turns : List HostTurn),
    (s.host = .read (.reg 0) :: turns →
      step s = .next { s with host := turns, reply := .word (if s.ctrlTmoEn then 2 else 0) }) ∧
    (s.host = .read .record :: turns →
      step s = .next { s with host := turns, reply := .record s.record }) ∧
    (∀ n : BitVec 8, 6 ≤ n.toNat → s.host = .read (.reg n) :: turns →
      step s = .next { s with host := turns, reply := .word 0 }) ∧
    (∀ t w, t ≠ .reg 0 → s.host = .write t w :: turns → step s = .next { s with host := turns })

/-! ### Reset -/

/-- R42, R260, R261: reset writes every element's reset value in one step, from every state, and does not touch the byte
source; a host read of any frame byte then finds nothing. The host's own turns and reply and the parameters stay
(log 20), the model's result port is cleared (log 10). -/
def Obligations.ResetActionGivesTheResetState : Prop :=
  ∀ (s : State) (turns : List HostTurn), s.host = .reset :: turns →
    ∃ t, step s = .next t ∧ t.stream = s.stream ∧ t.host = turns ∧ t.reply = s.reply ∧ t.cfg = s.cfg ∧
      t.st = .idle ∧ t.tmoEn = true ∧ t.ctrlTmoEn = true ∧ t.hlen = 0 ∧ t.blen = 0 ∧ t.idx = 0 ∧ t.acc = 0 ∧
      t.trl = 0 ∧ t.tcnt = 0 ∧ t.res = .none ∧ t.frameLen = 0 ∧ t.record = .none ∧ t.fault.empty ∧
      t.result = .none ∧ ∀ a, t.buf.byte? a = none

/-- R42, R34: right after reset every register reads 0 but CTRL, which reads 2, and every frame read records
FrameReadOutOfRange. The values stand in the reply port (log 12); the model's own fields have the values of log 7. -/
def Obligations.ReadsAfterReset : Prop :=
  (∀ n : BitVec 8, step { State.reset with host := [.read (.reg n)] } =
    .next { State.reset with reply := .word (if n = 0 then 2 else 0) }) ∧
  ∀ i : Index, step { State.reset with host := [.read (.frame i)] } =
    .next { State.reset with fault := { startWhileBusy := false, frameReadOutOfRange := true } }

/-! ### The whole machine -/

/-- The invariant holds after reset. -/
def Obligations.ResetMeetsTheInvariant : Prop := State.reset.Inv

/-- R20 to R30, R146: every step keeps the invariant: the buffer's canonical form; what each scanner state says of the
stored candidate, its lengths and its CRC; an accepted frame is a header and a body of the lengths it declares with a
matching CRC; `rec` is what the frame decodes to. In DECODE `frame_len` is set (R139) while `res` is still RES_NONE, so
R29's "exactly when" is kept in IDLE (log 14). -/
def Obligations.StepKeepsTheInvariant : Prop := ∀ s t : State, s.Inv → step s = .next t → t.Inv

/-- R146: what holds on entry to DECODE. -/
def Obligations.EntryToDecodeHasAWholeFrame : Prop :=
  ∀ s t : State, s.Inv → step s = .next t → s.st ≠ .decode → t.st = .decode →
    t.buf.byte? 0 = some 0xAA ∧ t.buf.byte? 1 = some 0x44 ∧ t.buf.byte? 2 = some 0x12 ∧
    t.buf.byte? 3 = some t.hlen ∧ 10 ≤ t.hlen.toNat ∧
    (∃ lo hi, t.buf.byte? 8 = some lo ∧ t.buf.byte? 9 = some hi ∧ t.blen = hi ++ lo) ∧
    t.frameLen = t.idx ∧ t.idx.toNat = t.hlen.toNat + t.blen.toNat ∧
    ∃ bs, t.buf.read 0 t.frameLen.toNat = some bs ∧ crc32 bs = t.acc ∧ t.acc = t.trl

/-- R121, R160, R162, R163: from a state of a run, a step always answers a next state; only a Timeout that is not
admissible stops it. A hold counts as a next state (log 3). -/
def Obligations.OnlyInadmissibleTimeoutStopsAStep : Prop :=
  ∀ s : State, s.Inv →
    (∃ t, step s = .next t) ∨
    step s = .refused .timeoutInadmissible ∧ isReading s.st = true ∧ s.tmoEn = false ∧
      ∃ rest, s.stream = .timeout :: rest

/-- R31, R226: `fault` is empty at reset; no step but reset removes a reason; StartWhileBusy is added exactly by a START
while busy and FrameReadOutOfRange exactly by a FRAME read at or above `frame_len`; a state with a reason is no good
final state. -/
def Obligations.FaultReasonsAreSticky : Prop :=
  State.reset.fault.empty ∧ (∀ s : State, ¬s.fault.empty → ¬s.goodScan) ∧
  ∀ s t : State, step s = .next t → ¬asserts s →
    (t.fault.startWhileBusy = true ↔ s.fault.startWhileBusy = true ∨
      s.st ≠ .idle ∧ ∃ w, writesCtrl s w ∧ w.getLsbD 0 = true) ∧
    (t.fault.frameReadOutOfRange = true ↔ s.fault.frameReadOutOfRange = true ∨
      ∃ i : Index, s.host.head? = some (.read (.frame i)) ∧ s.frameLen.toNat ≤ i.toNat)

/-- R32: no step changes the parameters, reset included. -/
def Obligations.ParametersNeverChange : Prop := ∀ s t : State, step s = .next t → t.cfg = s.cfg

/-- R269: while there is an accepted frame, a step that is neither a START nor a reset changes none of `buf`, `hlen`, `blen`
and `frame_len`, and the core stays in DECODE or IDLE. -/
def Obligations.AcceptedFrameIsImmutable : Prop :=
  ∀ s t : State, (s.st = .decode ∨ s.st = .idle) → s.frameLen ≠ 0 → step s = .next t → ¬asserts s →
    (∀ w, writesCtrl s w → s.st = .idle → w.getLsbD 0 = false) →
    t.buf = s.buf ∧ t.hlen = s.hlen ∧ t.blen = s.blen ∧ t.frameLen = s.frameLen ∧ (t.st = .decode ∨ t.st = .idle)

/-- R21, R35, R267: `tmo_en` changes only by a START in IDLE, which latches bit 1 of the value, and by reset, which sets
it; CTRL.TMO_EN changes only by a CTRL write, busy or not, and by reset. -/
def Obligations.TimeoutEnableIsLatchedByStart : Prop :=
  ∀ s t : State, step s = .next t →
    (∀ w, writesCtrl s w → t.ctrlTmoEn = w.getLsbD 1 ∧
      t.tmoEn = if s.st = .idle ∧ w.getLsbD 0 = true then w.getLsbD 1 else s.tmoEn) ∧
    ((∀ w, ¬writesCtrl s w) → ¬asserts s → t.ctrlTmoEn = s.ctrlTmoEn ∧ t.tmoEn = s.tmoEn) ∧
    (asserts s → t.ctrlTmoEn = true ∧ t.tmoEn = true)

/-- R50, R121, R147: a step takes at most one answer of the byte source, the next in order, and only in the states 1 to 7. -/
def Obligations.AnswersAreTakenOnceInOrder : Prop :=
  ∀ s t : State, step s = .next t →
    t.stream = s.stream ∨ isReading s.st = true ∧ ∃ r, s.stream = r :: t.stream

/-- R148, R230: a step from outside IDLE into IDLE is the decode step, with a code that leaves a frame; a Timeout or an
Error, with its code, no frame and no record; or reset. -/
def Obligations.ScanEndsOnlyByAnOutcomeOrReset : Prop :=
  ∀ s t : State, step s = .next t → s.st ≠ .idle → t.st = .idle →
    s.st = .decode ∧ hasFrame t.res = true ∧ t.frameLen = s.frameLen ∨
    s.stream = .timeout :: t.stream ∧ s.tmoEn = true ∧ t.res = .timeout ∧ t.frameLen = 0 ∧ t.record = .none ∨
    s.stream = .error :: t.stream ∧ t.res = .transport ∧ t.frameLen = 0 ∧ t.record = .none ∨
    asserts s ∧ t.res = .none

/-- R144: from `WANT_SYNC1` the sync states find the first occurrence of the preamble, right after it is read and at no
earlier position, and keep of a partial match only what starts at the latest `0xAA`. The spec marks R144 "derived: from
rules R124 to R131". -/
def Obligations.FirstPreambleIsFound : Prop :=
  ∀ (s : State) (before : List Byte) (rest : List Response), s.st = .wantSync1 → s.host = [] →
    ¬[0xAA, 0x44, 0x12] <:+: before → s.stream = (before ++ [0xAA, 0x44, 0x12]).map .data ++ rest →
    (∀ n, n < before.length + 3 → ∃ t, core.run n s = .next t ∧
      (t.st = .wantSync1 ∨ t.st = .wantSync2 ∧ t.idx = 1 ∧ t.buf.byte? 0 = some 0xAA ∨
        t.st = .wantSync3 ∧ t.idx = 2 ∧ t.buf.byte? 0 = some 0xAA ∧ t.buf.byte? 1 = some 0x44)) ∧
    ∃ t, core.run (before.length + 3) s = .next t ∧ t.st = .wantHeaderLen ∧ t.stream = rest ∧ t.idx = 3 ∧
      t.buf.read 0 3 = some [0xAA, 0x44, 0x12]

/-- R145, R144, R146: noise without the preamble followed by one well-formed frame and its checksum: the scan accepts that
frame, having taken exactly the noise, the frame and the trailer, whatever follows. -/
def Obligations.FrameAfterNoiseIsAccepted : Prop :=
  ∀ (s : State) (noise frame : List Byte) (rest : List Response), s.st = .wantSync1 → s.host = [] →
    ¬[0xAA, 0x44, 0x12] <:+: noise → isRawFrame frame →
    s.stream = (noise ++ frame ++ le32bytes (crc32 frame)).map .data ++ rest →
    ∃ t, core.run (noise.length + frame.length + 4) s = .next t ∧ t.st = .decode ∧ t.stream = rest ∧
      t.frameLen.toNat = frame.length ∧ t.buf.read 0 frame.length = some frame

/-- R140, R147, R221: a well-formed frame with any other trailer is consumed whole (R147, which the spec marks "derived"), is
not accepted, and the scan goes on with the next answer, no output register changed. -/
def Obligations.CorruptedTrailerResumesTheScan : Prop :=
  ∀ (s : State) (frame : List Byte) (trailer : Word) (rest : List Response), s.st = .wantSync1 → s.host = [] →
    isRawFrame frame → trailer ≠ crc32 frame → s.stream = (frame ++ le32bytes trailer).map .data ++ rest →
    ∃ t, core.run (frame.length + 4) s = .next t ∧ t.st = .wantSync1 ∧ t.idx = 0 ∧ t.stream = rest ∧
      t.res = s.res ∧ t.record = s.record ∧ t.frameLen = s.frameLen ∧ t.fault = s.fault
end

