-- ==== Sys2Proof/Laws/State.lean ====
section
/-! SUPPORT. What each named update of the state does to each field: one lemma per field per update. -/

namespace Sys2Proof.Machine

variable (s : State)

@[simp] theorem State.anchor_st (b : Byte) : (s.anchor b).st = .wantSync2 := rfl
@[simp] theorem State.anchor_tmoEn (b : Byte) : (s.anchor b).tmoEn = s.tmoEn := rfl
@[simp] theorem State.anchor_ctrlTmoEn (b : Byte) : (s.anchor b).ctrlTmoEn = s.ctrlTmoEn := rfl
@[simp] theorem State.anchor_hlen (b : Byte) : (s.anchor b).hlen = 0 := rfl
@[simp] theorem State.anchor_blen (b : Byte) : (s.anchor b).blen = 0 := rfl
@[simp] theorem State.anchor_idx (b : Byte) : (s.anchor b).idx = 1 := rfl
@[simp] theorem State.anchor_acc (b : Byte) : (s.anchor b).acc = crcStep Config.crcInit b := rfl
@[simp] theorem State.anchor_trl (b : Byte) : (s.anchor b).trl = 0 := rfl
@[simp] theorem State.anchor_tcnt (b : Byte) : (s.anchor b).tcnt = 0 := rfl
@[simp] theorem State.anchor_buf (b : Byte) : (s.anchor b).buf = s.buf.write 0 b := rfl
@[simp] theorem State.anchor_res (b : Byte) : (s.anchor b).res = s.res := rfl
@[simp] theorem State.anchor_frameLen (b : Byte) : (s.anchor b).frameLen = s.frameLen := rfl
@[simp] theorem State.anchor_record (b : Byte) : (s.anchor b).record = s.record := rfl
@[simp] theorem State.anchor_fault (b : Byte) : (s.anchor b).fault = s.fault := rfl
@[simp] theorem State.anchor_stream (b : Byte) : (s.anchor b).stream = s.stream := rfl
@[simp] theorem State.anchor_host (b : Byte) : (s.anchor b).host = s.host := rfl
@[simp] theorem State.anchor_reply (b : Byte) : (s.anchor b).reply = s.reply := rfl
@[simp] theorem State.anchor_result (b : Byte) : (s.anchor b).result = s.result := rfl
@[simp] theorem State.anchor_cfg (b : Byte) : (s.anchor b).cfg = s.cfg := rfl

@[simp] theorem State.store_st (b : Byte) : (s.store b).st = s.st := rfl
@[simp] theorem State.store_tmoEn (b : Byte) : (s.store b).tmoEn = s.tmoEn := rfl
@[simp] theorem State.store_ctrlTmoEn (b : Byte) : (s.store b).ctrlTmoEn = s.ctrlTmoEn := rfl
@[simp] theorem State.store_hlen (b : Byte) : (s.store b).hlen = s.hlen := rfl
@[simp] theorem State.store_blen (b : Byte) : (s.store b).blen = s.blen := rfl
@[simp] theorem State.store_idx (b : Byte) : (s.store b).idx = s.idx + 1 := rfl
@[simp] theorem State.store_acc (b : Byte) : (s.store b).acc = crcStep s.acc b := rfl
@[simp] theorem State.store_trl (b : Byte) : (s.store b).trl = s.trl := rfl
@[simp] theorem State.store_tcnt (b : Byte) : (s.store b).tcnt = s.tcnt := rfl
@[simp] theorem State.store_buf (b : Byte) : (s.store b).buf = s.buf.write s.idx.toNat b := rfl
@[simp] theorem State.store_res (b : Byte) : (s.store b).res = s.res := rfl
@[simp] theorem State.store_frameLen (b : Byte) : (s.store b).frameLen = s.frameLen := rfl
@[simp] theorem State.store_record (b : Byte) : (s.store b).record = s.record := rfl
@[simp] theorem State.store_fault (b : Byte) : (s.store b).fault = s.fault := rfl
@[simp] theorem State.store_stream (b : Byte) : (s.store b).stream = s.stream := rfl
@[simp] theorem State.store_host (b : Byte) : (s.store b).host = s.host := rfl
@[simp] theorem State.store_reply (b : Byte) : (s.store b).reply = s.reply := rfl
@[simp] theorem State.store_result (b : Byte) : (s.store b).result = s.result := rfl
@[simp] theorem State.store_cfg (b : Byte) : (s.store b).cfg = s.cfg := rfl

@[simp] theorem State.drop_st : s.drop.st = .wantSync1 := rfl
@[simp] theorem State.drop_tmoEn : s.drop.tmoEn = s.tmoEn := rfl
@[simp] theorem State.drop_ctrlTmoEn : s.drop.ctrlTmoEn = s.ctrlTmoEn := rfl
@[simp] theorem State.drop_hlen : s.drop.hlen = 0 := rfl
@[simp] theorem State.drop_blen : s.drop.blen = 0 := rfl
@[simp] theorem State.drop_idx : s.drop.idx = 0 := rfl
@[simp] theorem State.drop_acc : s.drop.acc = 0 := rfl
@[simp] theorem State.drop_trl : s.drop.trl = 0 := rfl
@[simp] theorem State.drop_tcnt : s.drop.tcnt = 0 := rfl
@[simp] theorem State.drop_buf : s.drop.buf = s.buf := rfl
@[simp] theorem State.drop_res : s.drop.res = s.res := rfl
@[simp] theorem State.drop_frameLen : s.drop.frameLen = s.frameLen := rfl
@[simp] theorem State.drop_record : s.drop.record = s.record := rfl
@[simp] theorem State.drop_fault : s.drop.fault = s.fault := rfl
@[simp] theorem State.drop_stream : s.drop.stream = s.stream := rfl
@[simp] theorem State.drop_host : s.drop.host = s.host := rfl
@[simp] theorem State.drop_reply : s.drop.reply = s.reply := rfl
@[simp] theorem State.drop_result : s.drop.result = s.result := rfl
@[simp] theorem State.drop_cfg : s.drop.cfg = s.cfg := rfl

@[simp] theorem State.goto_st (x : ScanState) : (s.goto x).st = x := rfl
@[simp] theorem State.goto_tmoEn (x : ScanState) : (s.goto x).tmoEn = s.tmoEn := rfl
@[simp] theorem State.goto_ctrlTmoEn (x : ScanState) : (s.goto x).ctrlTmoEn = s.ctrlTmoEn := rfl
@[simp] theorem State.goto_hlen (x : ScanState) : (s.goto x).hlen = s.hlen := rfl
@[simp] theorem State.goto_blen (x : ScanState) : (s.goto x).blen = s.blen := rfl
@[simp] theorem State.goto_idx (x : ScanState) : (s.goto x).idx = s.idx := rfl
@[simp] theorem State.goto_acc (x : ScanState) : (s.goto x).acc = s.acc := rfl
@[simp] theorem State.goto_trl (x : ScanState) : (s.goto x).trl = s.trl := rfl
@[simp] theorem State.goto_tcnt (x : ScanState) : (s.goto x).tcnt = s.tcnt := rfl
@[simp] theorem State.goto_buf (x : ScanState) : (s.goto x).buf = s.buf := rfl
@[simp] theorem State.goto_res (x : ScanState) : (s.goto x).res = s.res := rfl
@[simp] theorem State.goto_frameLen (x : ScanState) : (s.goto x).frameLen = s.frameLen := rfl
@[simp] theorem State.goto_record (x : ScanState) : (s.goto x).record = s.record := rfl
@[simp] theorem State.goto_fault (x : ScanState) : (s.goto x).fault = s.fault := rfl
@[simp] theorem State.goto_stream (x : ScanState) : (s.goto x).stream = s.stream := rfl
@[simp] theorem State.goto_host (x : ScanState) : (s.goto x).host = s.host := rfl
@[simp] theorem State.goto_reply (x : ScanState) : (s.goto x).reply = s.reply := rfl
@[simp] theorem State.goto_result (x : ScanState) : (s.goto x).result = s.result := rfl
@[simp] theorem State.goto_cfg (x : ScanState) : (s.goto x).cfg = s.cfg := rfl

@[simp] theorem State.startScan_st (v : Bool) : (s.startScan v).st = .wantSync1 := rfl
@[simp] theorem State.startScan_tmoEn (v : Bool) : (s.startScan v).tmoEn = v := rfl
@[simp] theorem State.startScan_ctrlTmoEn (v : Bool) : (s.startScan v).ctrlTmoEn = s.ctrlTmoEn := rfl
@[simp] theorem State.startScan_hlen (v : Bool) : (s.startScan v).hlen = 0 := rfl
@[simp] theorem State.startScan_blen (v : Bool) : (s.startScan v).blen = 0 := rfl
@[simp] theorem State.startScan_idx (v : Bool) : (s.startScan v).idx = 0 := rfl
@[simp] theorem State.startScan_acc (v : Bool) : (s.startScan v).acc = 0 := rfl
@[simp] theorem State.startScan_trl (v : Bool) : (s.startScan v).trl = 0 := rfl
@[simp] theorem State.startScan_tcnt (v : Bool) : (s.startScan v).tcnt = 0 := rfl
@[simp] theorem State.startScan_buf (v : Bool) : (s.startScan v).buf = s.buf := rfl
@[simp] theorem State.startScan_res (v : Bool) : (s.startScan v).res = .none := rfl
@[simp] theorem State.startScan_frameLen (v : Bool) : (s.startScan v).frameLen = 0 := rfl
@[simp] theorem State.startScan_record (v : Bool) : (s.startScan v).record = .none := rfl
@[simp] theorem State.startScan_fault (v : Bool) : (s.startScan v).fault = s.fault := rfl
@[simp] theorem State.startScan_stream (v : Bool) : (s.startScan v).stream = s.stream := rfl
@[simp] theorem State.startScan_host (v : Bool) : (s.startScan v).host = s.host := rfl
@[simp] theorem State.startScan_reply (v : Bool) : (s.startScan v).reply = s.reply := rfl
@[simp] theorem State.startScan_result (v : Bool) : (s.startScan v).result = s.result := rfl
@[simp] theorem State.startScan_cfg (v : Bool) : (s.startScan v).cfg = s.cfg := rfl

@[simp] theorem State.endScan_st (r : ResCode) : (s.endScan r).st = .idle := rfl
@[simp] theorem State.endScan_tmoEn (r : ResCode) : (s.endScan r).tmoEn = s.tmoEn := rfl
@[simp] theorem State.endScan_ctrlTmoEn (r : ResCode) : (s.endScan r).ctrlTmoEn = s.ctrlTmoEn := rfl
@[simp] theorem State.endScan_hlen (r : ResCode) : (s.endScan r).hlen = 0 := rfl
@[simp] theorem State.endScan_blen (r : ResCode) : (s.endScan r).blen = 0 := rfl
@[simp] theorem State.endScan_idx (r : ResCode) : (s.endScan r).idx = 0 := rfl
@[simp] theorem State.endScan_acc (r : ResCode) : (s.endScan r).acc = 0 := rfl
@[simp] theorem State.endScan_trl (r : ResCode) : (s.endScan r).trl = 0 := rfl
@[simp] theorem State.endScan_tcnt (r : ResCode) : (s.endScan r).tcnt = 0 := rfl
@[simp] theorem State.endScan_buf (r : ResCode) : (s.endScan r).buf = s.buf := rfl
@[simp] theorem State.endScan_res (r : ResCode) : (s.endScan r).res = r := rfl
@[simp] theorem State.endScan_frameLen (r : ResCode) : (s.endScan r).frameLen = 0 := rfl
@[simp] theorem State.endScan_record (r : ResCode) : (s.endScan r).record = .none := rfl
@[simp] theorem State.endScan_fault (r : ResCode) : (s.endScan r).fault = s.fault := rfl
@[simp] theorem State.endScan_stream (r : ResCode) : (s.endScan r).stream = s.stream := rfl
@[simp] theorem State.endScan_host (r : ResCode) : (s.endScan r).host = s.host := rfl
@[simp] theorem State.endScan_reply (r : ResCode) : (s.endScan r).reply = s.reply := rfl
@[simp] theorem State.endScan_result (r : ResCode) : (s.endScan r).result = s.result := rfl
@[simp] theorem State.endScan_cfg (r : ResCode) : (s.endScan r).cfg = s.cfg := rfl

@[simp] theorem State.setOutcome_st (r : ResCode) (o : Record) : (s.setOutcome r o).st = s.st := rfl
@[simp] theorem State.setOutcome_tmoEn (r : ResCode) (o : Record) : (s.setOutcome r o).tmoEn = s.tmoEn := rfl
@[simp] theorem State.setOutcome_ctrlTmoEn (r : ResCode) (o : Record) : (s.setOutcome r o).ctrlTmoEn = s.ctrlTmoEn := rfl
@[simp] theorem State.setOutcome_hlen (r : ResCode) (o : Record) : (s.setOutcome r o).hlen = s.hlen := rfl
@[simp] theorem State.setOutcome_blen (r : ResCode) (o : Record) : (s.setOutcome r o).blen = s.blen := rfl
@[simp] theorem State.setOutcome_idx (r : ResCode) (o : Record) : (s.setOutcome r o).idx = s.idx := rfl
@[simp] theorem State.setOutcome_acc (r : ResCode) (o : Record) : (s.setOutcome r o).acc = s.acc := rfl
@[simp] theorem State.setOutcome_trl (r : ResCode) (o : Record) : (s.setOutcome r o).trl = s.trl := rfl
@[simp] theorem State.setOutcome_tcnt (r : ResCode) (o : Record) : (s.setOutcome r o).tcnt = s.tcnt := rfl
@[simp] theorem State.setOutcome_buf (r : ResCode) (o : Record) : (s.setOutcome r o).buf = s.buf := rfl
@[simp] theorem State.setOutcome_res (r : ResCode) (o : Record) : (s.setOutcome r o).res = r := rfl
@[simp] theorem State.setOutcome_frameLen (r : ResCode) (o : Record) : (s.setOutcome r o).frameLen = s.frameLen := rfl
@[simp] theorem State.setOutcome_record (r : ResCode) (o : Record) : (s.setOutcome r o).record = o := rfl
@[simp] theorem State.setOutcome_fault (r : ResCode) (o : Record) : (s.setOutcome r o).fault = s.fault := rfl
@[simp] theorem State.setOutcome_stream (r : ResCode) (o : Record) : (s.setOutcome r o).stream = s.stream := rfl
@[simp] theorem State.setOutcome_host (r : ResCode) (o : Record) : (s.setOutcome r o).host = s.host := rfl
@[simp] theorem State.setOutcome_reply (r : ResCode) (o : Record) : (s.setOutcome r o).reply = s.reply := rfl
@[simp] theorem State.setOutcome_result (r : ResCode) (o : Record) : (s.setOutcome r o).result = s.result := rfl
@[simp] theorem State.setOutcome_cfg (r : ResCode) (o : Record) : (s.setOutcome r o).cfg = s.cfg := rfl

@[simp] theorem State.setCtrlTmoEn_st (v : Bool) : (s.setCtrlTmoEn v).st = s.st := rfl
@[simp] theorem State.setCtrlTmoEn_tmoEn (v : Bool) : (s.setCtrlTmoEn v).tmoEn = s.tmoEn := rfl
@[simp] theorem State.setCtrlTmoEn_ctrlTmoEn (v : Bool) : (s.setCtrlTmoEn v).ctrlTmoEn = v := rfl
@[simp] theorem State.setCtrlTmoEn_hlen (v : Bool) : (s.setCtrlTmoEn v).hlen = s.hlen := rfl
@[simp] theorem State.setCtrlTmoEn_blen (v : Bool) : (s.setCtrlTmoEn v).blen = s.blen := rfl
@[simp] theorem State.setCtrlTmoEn_idx (v : Bool) : (s.setCtrlTmoEn v).idx = s.idx := rfl
@[simp] theorem State.setCtrlTmoEn_acc (v : Bool) : (s.setCtrlTmoEn v).acc = s.acc := rfl
@[simp] theorem State.setCtrlTmoEn_trl (v : Bool) : (s.setCtrlTmoEn v).trl = s.trl := rfl
@[simp] theorem State.setCtrlTmoEn_tcnt (v : Bool) : (s.setCtrlTmoEn v).tcnt = s.tcnt := rfl
@[simp] theorem State.setCtrlTmoEn_buf (v : Bool) : (s.setCtrlTmoEn v).buf = s.buf := rfl
@[simp] theorem State.setCtrlTmoEn_res (v : Bool) : (s.setCtrlTmoEn v).res = s.res := rfl
@[simp] theorem State.setCtrlTmoEn_frameLen (v : Bool) : (s.setCtrlTmoEn v).frameLen = s.frameLen := rfl
@[simp] theorem State.setCtrlTmoEn_record (v : Bool) : (s.setCtrlTmoEn v).record = s.record := rfl
@[simp] theorem State.setCtrlTmoEn_fault (v : Bool) : (s.setCtrlTmoEn v).fault = s.fault := rfl
@[simp] theorem State.setCtrlTmoEn_stream (v : Bool) : (s.setCtrlTmoEn v).stream = s.stream := rfl
@[simp] theorem State.setCtrlTmoEn_host (v : Bool) : (s.setCtrlTmoEn v).host = s.host := rfl
@[simp] theorem State.setCtrlTmoEn_reply (v : Bool) : (s.setCtrlTmoEn v).reply = s.reply := rfl
@[simp] theorem State.setCtrlTmoEn_result (v : Bool) : (s.setCtrlTmoEn v).result = s.result := rfl
@[simp] theorem State.setCtrlTmoEn_cfg (v : Bool) : (s.setCtrlTmoEn v).cfg = s.cfg := rfl

@[simp] theorem State.recordStartWhileBusy_st : s.recordStartWhileBusy.st = s.st := rfl
@[simp] theorem State.recordStartWhileBusy_tmoEn : s.recordStartWhileBusy.tmoEn = s.tmoEn := rfl
@[simp] theorem State.recordStartWhileBusy_ctrlTmoEn : s.recordStartWhileBusy.ctrlTmoEn = s.ctrlTmoEn := rfl
@[simp] theorem State.recordStartWhileBusy_hlen : s.recordStartWhileBusy.hlen = s.hlen := rfl
@[simp] theorem State.recordStartWhileBusy_blen : s.recordStartWhileBusy.blen = s.blen := rfl
@[simp] theorem State.recordStartWhileBusy_idx : s.recordStartWhileBusy.idx = s.idx := rfl
@[simp] theorem State.recordStartWhileBusy_acc : s.recordStartWhileBusy.acc = s.acc := rfl
@[simp] theorem State.recordStartWhileBusy_trl : s.recordStartWhileBusy.trl = s.trl := rfl
@[simp] theorem State.recordStartWhileBusy_tcnt : s.recordStartWhileBusy.tcnt = s.tcnt := rfl
@[simp] theorem State.recordStartWhileBusy_buf : s.recordStartWhileBusy.buf = s.buf := rfl
@[simp] theorem State.recordStartWhileBusy_res : s.recordStartWhileBusy.res = s.res := rfl
@[simp] theorem State.recordStartWhileBusy_frameLen : s.recordStartWhileBusy.frameLen = s.frameLen := rfl
@[simp] theorem State.recordStartWhileBusy_record : s.recordStartWhileBusy.record = s.record := rfl
@[simp] theorem State.recordStartWhileBusy_fault : s.recordStartWhileBusy.fault = { s.fault with startWhileBusy := true } := rfl
@[simp] theorem State.recordStartWhileBusy_stream : s.recordStartWhileBusy.stream = s.stream := rfl
@[simp] theorem State.recordStartWhileBusy_host : s.recordStartWhileBusy.host = s.host := rfl
@[simp] theorem State.recordStartWhileBusy_reply : s.recordStartWhileBusy.reply = s.reply := rfl
@[simp] theorem State.recordStartWhileBusy_result : s.recordStartWhileBusy.result = s.result := rfl
@[simp] theorem State.recordStartWhileBusy_cfg : s.recordStartWhileBusy.cfg = s.cfg := rfl

@[simp] theorem State.recordFrameReadOutOfRange_st : s.recordFrameReadOutOfRange.st = s.st := rfl
@[simp] theorem State.recordFrameReadOutOfRange_tmoEn : s.recordFrameReadOutOfRange.tmoEn = s.tmoEn := rfl
@[simp] theorem State.recordFrameReadOutOfRange_ctrlTmoEn : s.recordFrameReadOutOfRange.ctrlTmoEn = s.ctrlTmoEn := rfl
@[simp] theorem State.recordFrameReadOutOfRange_hlen : s.recordFrameReadOutOfRange.hlen = s.hlen := rfl
@[simp] theorem State.recordFrameReadOutOfRange_blen : s.recordFrameReadOutOfRange.blen = s.blen := rfl
@[simp] theorem State.recordFrameReadOutOfRange_idx : s.recordFrameReadOutOfRange.idx = s.idx := rfl
@[simp] theorem State.recordFrameReadOutOfRange_acc : s.recordFrameReadOutOfRange.acc = s.acc := rfl
@[simp] theorem State.recordFrameReadOutOfRange_trl : s.recordFrameReadOutOfRange.trl = s.trl := rfl
@[simp] theorem State.recordFrameReadOutOfRange_tcnt : s.recordFrameReadOutOfRange.tcnt = s.tcnt := rfl
@[simp] theorem State.recordFrameReadOutOfRange_buf : s.recordFrameReadOutOfRange.buf = s.buf := rfl
@[simp] theorem State.recordFrameReadOutOfRange_res : s.recordFrameReadOutOfRange.res = s.res := rfl
@[simp] theorem State.recordFrameReadOutOfRange_frameLen : s.recordFrameReadOutOfRange.frameLen = s.frameLen := rfl
@[simp] theorem State.recordFrameReadOutOfRange_record : s.recordFrameReadOutOfRange.record = s.record := rfl
@[simp] theorem State.recordFrameReadOutOfRange_fault : s.recordFrameReadOutOfRange.fault = { s.fault with frameReadOutOfRange := true } := rfl
@[simp] theorem State.recordFrameReadOutOfRange_stream : s.recordFrameReadOutOfRange.stream = s.stream := rfl
@[simp] theorem State.recordFrameReadOutOfRange_host : s.recordFrameReadOutOfRange.host = s.host := rfl
@[simp] theorem State.recordFrameReadOutOfRange_reply : s.recordFrameReadOutOfRange.reply = s.reply := rfl
@[simp] theorem State.recordFrameReadOutOfRange_result : s.recordFrameReadOutOfRange.result = s.result := rfl
@[simp] theorem State.recordFrameReadOutOfRange_cfg : s.recordFrameReadOutOfRange.cfg = s.cfg := rfl

@[simp] theorem State.setResult_st (r : OpResult) : (s.setResult r).st = s.st := rfl
@[simp] theorem State.setResult_tmoEn (r : OpResult) : (s.setResult r).tmoEn = s.tmoEn := rfl
@[simp] theorem State.setResult_ctrlTmoEn (r : OpResult) : (s.setResult r).ctrlTmoEn = s.ctrlTmoEn := rfl
@[simp] theorem State.setResult_hlen (r : OpResult) : (s.setResult r).hlen = s.hlen := rfl
@[simp] theorem State.setResult_blen (r : OpResult) : (s.setResult r).blen = s.blen := rfl
@[simp] theorem State.setResult_idx (r : OpResult) : (s.setResult r).idx = s.idx := rfl
@[simp] theorem State.setResult_acc (r : OpResult) : (s.setResult r).acc = s.acc := rfl
@[simp] theorem State.setResult_trl (r : OpResult) : (s.setResult r).trl = s.trl := rfl
@[simp] theorem State.setResult_tcnt (r : OpResult) : (s.setResult r).tcnt = s.tcnt := rfl
@[simp] theorem State.setResult_buf (r : OpResult) : (s.setResult r).buf = s.buf := rfl
@[simp] theorem State.setResult_res (r : OpResult) : (s.setResult r).res = s.res := rfl
@[simp] theorem State.setResult_frameLen (r : OpResult) : (s.setResult r).frameLen = s.frameLen := rfl
@[simp] theorem State.setResult_record (r : OpResult) : (s.setResult r).record = s.record := rfl
@[simp] theorem State.setResult_fault (r : OpResult) : (s.setResult r).fault = s.fault := rfl
@[simp] theorem State.setResult_stream (r : OpResult) : (s.setResult r).stream = s.stream := rfl
@[simp] theorem State.setResult_host (r : OpResult) : (s.setResult r).host = s.host := rfl
@[simp] theorem State.setResult_reply (r : OpResult) : (s.setResult r).reply = s.reply := rfl
@[simp] theorem State.setResult_result (r : OpResult) : (s.setResult r).result = r := rfl
@[simp] theorem State.setResult_cfg (r : OpResult) : (s.setResult r).cfg = s.cfg := rfl

@[simp] theorem State.setAcc_st (v : Word) : (s.setAcc v).st = s.st := rfl
@[simp] theorem State.setAcc_tmoEn (v : Word) : (s.setAcc v).tmoEn = s.tmoEn := rfl
@[simp] theorem State.setAcc_ctrlTmoEn (v : Word) : (s.setAcc v).ctrlTmoEn = s.ctrlTmoEn := rfl
@[simp] theorem State.setAcc_hlen (v : Word) : (s.setAcc v).hlen = s.hlen := rfl
@[simp] theorem State.setAcc_blen (v : Word) : (s.setAcc v).blen = s.blen := rfl
@[simp] theorem State.setAcc_idx (v : Word) : (s.setAcc v).idx = s.idx := rfl
@[simp] theorem State.setAcc_acc (v : Word) : (s.setAcc v).acc = v := rfl
@[simp] theorem State.setAcc_trl (v : Word) : (s.setAcc v).trl = s.trl := rfl
@[simp] theorem State.setAcc_tcnt (v : Word) : (s.setAcc v).tcnt = s.tcnt := rfl
@[simp] theorem State.setAcc_buf (v : Word) : (s.setAcc v).buf = s.buf := rfl
@[simp] theorem State.setAcc_res (v : Word) : (s.setAcc v).res = s.res := rfl
@[simp] theorem State.setAcc_frameLen (v : Word) : (s.setAcc v).frameLen = s.frameLen := rfl
@[simp] theorem State.setAcc_record (v : Word) : (s.setAcc v).record = s.record := rfl
@[simp] theorem State.setAcc_fault (v : Word) : (s.setAcc v).fault = s.fault := rfl
@[simp] theorem State.setAcc_stream (v : Word) : (s.setAcc v).stream = s.stream := rfl
@[simp] theorem State.setAcc_host (v : Word) : (s.setAcc v).host = s.host := rfl
@[simp] theorem State.setAcc_reply (v : Word) : (s.setAcc v).reply = s.reply := rfl
@[simp] theorem State.setAcc_result (v : Word) : (s.setAcc v).result = s.result := rfl
@[simp] theorem State.setAcc_cfg (v : Word) : (s.setAcc v).cfg = s.cfg := rfl

@[simp] theorem State.setReply_st (r : Reply) : (s.setReply r).st = s.st := rfl
@[simp] theorem State.setReply_tmoEn (r : Reply) : (s.setReply r).tmoEn = s.tmoEn := rfl
@[simp] theorem State.setReply_ctrlTmoEn (r : Reply) : (s.setReply r).ctrlTmoEn = s.ctrlTmoEn := rfl
@[simp] theorem State.setReply_hlen (r : Reply) : (s.setReply r).hlen = s.hlen := rfl
@[simp] theorem State.setReply_blen (r : Reply) : (s.setReply r).blen = s.blen := rfl
@[simp] theorem State.setReply_idx (r : Reply) : (s.setReply r).idx = s.idx := rfl
@[simp] theorem State.setReply_acc (r : Reply) : (s.setReply r).acc = s.acc := rfl
@[simp] theorem State.setReply_trl (r : Reply) : (s.setReply r).trl = s.trl := rfl
@[simp] theorem State.setReply_tcnt (r : Reply) : (s.setReply r).tcnt = s.tcnt := rfl
@[simp] theorem State.setReply_buf (r : Reply) : (s.setReply r).buf = s.buf := rfl
@[simp] theorem State.setReply_res (r : Reply) : (s.setReply r).res = s.res := rfl
@[simp] theorem State.setReply_frameLen (r : Reply) : (s.setReply r).frameLen = s.frameLen := rfl
@[simp] theorem State.setReply_record (r : Reply) : (s.setReply r).record = s.record := rfl
@[simp] theorem State.setReply_fault (r : Reply) : (s.setReply r).fault = s.fault := rfl
@[simp] theorem State.setReply_stream (r : Reply) : (s.setReply r).stream = s.stream := rfl
@[simp] theorem State.setReply_host (r : Reply) : (s.setReply r).host = s.host := rfl
@[simp] theorem State.setReply_reply (r : Reply) : (s.setReply r).reply = r := rfl
@[simp] theorem State.setReply_result (r : Reply) : (s.setReply r).result = s.result := rfl
@[simp] theorem State.setReply_cfg (r : Reply) : (s.setReply r).cfg = s.cfg := rfl

@[simp] theorem State.setStream_st (l : List Response) : (s.setStream l).st = s.st := rfl
@[simp] theorem State.setStream_tmoEn (l : List Response) : (s.setStream l).tmoEn = s.tmoEn := rfl
@[simp] theorem State.setStream_ctrlTmoEn (l : List Response) : (s.setStream l).ctrlTmoEn = s.ctrlTmoEn := rfl
@[simp] theorem State.setStream_hlen (l : List Response) : (s.setStream l).hlen = s.hlen := rfl
@[simp] theorem State.setStream_blen (l : List Response) : (s.setStream l).blen = s.blen := rfl
@[simp] theorem State.setStream_idx (l : List Response) : (s.setStream l).idx = s.idx := rfl
@[simp] theorem State.setStream_acc (l : List Response) : (s.setStream l).acc = s.acc := rfl
@[simp] theorem State.setStream_trl (l : List Response) : (s.setStream l).trl = s.trl := rfl
@[simp] theorem State.setStream_tcnt (l : List Response) : (s.setStream l).tcnt = s.tcnt := rfl
@[simp] theorem State.setStream_buf (l : List Response) : (s.setStream l).buf = s.buf := rfl
@[simp] theorem State.setStream_res (l : List Response) : (s.setStream l).res = s.res := rfl
@[simp] theorem State.setStream_frameLen (l : List Response) : (s.setStream l).frameLen = s.frameLen := rfl
@[simp] theorem State.setStream_record (l : List Response) : (s.setStream l).record = s.record := rfl
@[simp] theorem State.setStream_fault (l : List Response) : (s.setStream l).fault = s.fault := rfl
@[simp] theorem State.setStream_stream (l : List Response) : (s.setStream l).stream = l := rfl
@[simp] theorem State.setStream_host (l : List Response) : (s.setStream l).host = s.host := rfl
@[simp] theorem State.setStream_reply (l : List Response) : (s.setStream l).reply = s.reply := rfl
@[simp] theorem State.setStream_result (l : List Response) : (s.setStream l).result = s.result := rfl
@[simp] theorem State.setStream_cfg (l : List Response) : (s.setStream l).cfg = s.cfg := rfl

@[simp] theorem State.setHost_st (l : List HostTurn) : (s.setHost l).st = s.st := rfl
@[simp] theorem State.setHost_tmoEn (l : List HostTurn) : (s.setHost l).tmoEn = s.tmoEn := rfl
@[simp] theorem State.setHost_ctrlTmoEn (l : List HostTurn) : (s.setHost l).ctrlTmoEn = s.ctrlTmoEn := rfl
@[simp] theorem State.setHost_hlen (l : List HostTurn) : (s.setHost l).hlen = s.hlen := rfl
@[simp] theorem State.setHost_blen (l : List HostTurn) : (s.setHost l).blen = s.blen := rfl
@[simp] theorem State.setHost_idx (l : List HostTurn) : (s.setHost l).idx = s.idx := rfl
@[simp] theorem State.setHost_acc (l : List HostTurn) : (s.setHost l).acc = s.acc := rfl
@[simp] theorem State.setHost_trl (l : List HostTurn) : (s.setHost l).trl = s.trl := rfl
@[simp] theorem State.setHost_tcnt (l : List HostTurn) : (s.setHost l).tcnt = s.tcnt := rfl
@[simp] theorem State.setHost_buf (l : List HostTurn) : (s.setHost l).buf = s.buf := rfl
@[simp] theorem State.setHost_res (l : List HostTurn) : (s.setHost l).res = s.res := rfl
@[simp] theorem State.setHost_frameLen (l : List HostTurn) : (s.setHost l).frameLen = s.frameLen := rfl
@[simp] theorem State.setHost_record (l : List HostTurn) : (s.setHost l).record = s.record := rfl
@[simp] theorem State.setHost_fault (l : List HostTurn) : (s.setHost l).fault = s.fault := rfl
@[simp] theorem State.setHost_stream (l : List HostTurn) : (s.setHost l).stream = s.stream := rfl
@[simp] theorem State.setHost_host (l : List HostTurn) : (s.setHost l).host = l := rfl
@[simp] theorem State.setHost_reply (l : List HostTurn) : (s.setHost l).reply = s.reply := rfl
@[simp] theorem State.setHost_result (l : List HostTurn) : (s.setHost l).result = s.result := rfl
@[simp] theorem State.setHost_cfg (l : List HostTurn) : (s.setHost l).cfg = s.cfg := rfl

@[simp] theorem State.resetCore_st : s.resetCore.st = State.reset.st := rfl
@[simp] theorem State.resetCore_tmoEn : s.resetCore.tmoEn = State.reset.tmoEn := rfl
@[simp] theorem State.resetCore_ctrlTmoEn : s.resetCore.ctrlTmoEn = State.reset.ctrlTmoEn := rfl
@[simp] theorem State.resetCore_hlen : s.resetCore.hlen = State.reset.hlen := rfl
@[simp] theorem State.resetCore_blen : s.resetCore.blen = State.reset.blen := rfl
@[simp] theorem State.resetCore_idx : s.resetCore.idx = State.reset.idx := rfl
@[simp] theorem State.resetCore_acc : s.resetCore.acc = State.reset.acc := rfl
@[simp] theorem State.resetCore_trl : s.resetCore.trl = State.reset.trl := rfl
@[simp] theorem State.resetCore_tcnt : s.resetCore.tcnt = State.reset.tcnt := rfl
@[simp] theorem State.resetCore_buf : s.resetCore.buf = State.reset.buf := rfl
@[simp] theorem State.resetCore_res : s.resetCore.res = State.reset.res := rfl
@[simp] theorem State.resetCore_frameLen : s.resetCore.frameLen = State.reset.frameLen := rfl
@[simp] theorem State.resetCore_record : s.resetCore.record = State.reset.record := rfl
@[simp] theorem State.resetCore_fault : s.resetCore.fault = State.reset.fault := rfl
@[simp] theorem State.resetCore_stream : s.resetCore.stream = s.stream := rfl
@[simp] theorem State.resetCore_host : s.resetCore.host = s.host := rfl
@[simp] theorem State.resetCore_reply : s.resetCore.reply = s.reply := rfl
@[simp] theorem State.resetCore_result : s.resetCore.result = State.reset.result := rfl
@[simp] theorem State.resetCore_cfg : s.resetCore.cfg = s.cfg := rfl

end Sys2Proof.Machine
end

