-- ==== Sys2Proof/Laws/Memory.lean ====
section
/-! SUPPORT. The laws of the frame buffer: reads after writes, the canonical form, runs of bytes. -/

namespace Sys2Proof.Machine

theorem Memory.byte?_cons (k a : Nat) (v : Byte) (m : Memory) :
    Memory.byte? ((k, v) :: m) a = if k = a then some v else m.byte? a := rfl

theorem Memory.byte?_write (m : Memory) (a x : Nat) (b : Byte) :
    (m.write a b).byte? x = if x = a then some b else m.byte? x := by
  induction m with
  | nil => simp [write, byte?, eq_comm]
  | cons c rest ih =>
    obtain ⟨k, v⟩ := c
    simp only [write]
    split
    · simp [byte?_cons, eq_comm]
    · split
      · rename_i _ hk
        rw [byte?_cons, byte?_cons, ← hk]
        by_cases h : a = x
        · simp [h]
        · simp [h, Ne.symm h]
      · rename_i h1 h2
        rw [byte?_cons, byte?_cons, ih]
        by_cases h : k = x
        · simp [h, show x ≠ a by omega]
        · simp [h]

@[simp] theorem Memory.byte?_write_self (m : Memory) (a : Nat) (b : Byte) : (m.write a b).byte? a = some b := by
  simp [byte?_write]

theorem Memory.byte?_write_of_ne (m : Memory) {a x : Nat} (b : Byte) (h : x ≠ a) :
    (m.write a b).byte? x = m.byte? x := by
  simp [byte?_write, h]

/-- Every cell of a memory after a write is the written one or an old one. -/
theorem Memory.mem_write {m : Memory} {a : Nat} {b : Byte} {c : Host.Cell} (h : c ∈ m.write a b) :
    c = (a, b) ∨ c ∈ m := by
  induction m with
  | nil => simpa [write] using h
  | cons d rest ih =>
    obtain ⟨k, v⟩ := d
    simp only [write] at h
    split at h
    · simpa using h
    · split at h
      · rcases List.mem_cons.1 h with h | h
        · exact .inl h
        · exact .inr (List.mem_cons_of_mem _ h)
      · rcases List.mem_cons.1 h with h | h
        · exact .inr (h ▸ List.mem_cons_self)
        · exact (ih h).imp id (List.mem_cons_of_mem _)

/-- A write inside the buffer keeps the canonical form. -/
theorem Memory.wf_write {m : Memory} {a : Nat} (b : Byte) (hm : m.wf) (ha : a < Config.frameMax) :
    (m.write a b).wf := by
  refine ⟨?_, fun c hc => (mem_write hc).elim (fun h => h ▸ ha) (hm.2 c)⟩
  have hp := hm.1
  clear hm
  induction m with
  | nil => simp [write]
  | cons d rest ih =>
    obtain ⟨k, v⟩ := d
    obtain ⟨hk, hr⟩ := List.pairwise_cons.1 hp
    simp only [write]
    split
    · rename_i hlt
      exact List.pairwise_cons.2 ⟨fun x hx => (List.mem_cons.1 hx).elim (fun h => h ▸ hlt) (fun h => hlt.trans (hk x h)), hp⟩
    · split
      · subst_vars; exact List.pairwise_cons.2 ⟨hk, hr⟩
      · refine List.pairwise_cons.2 ⟨fun x hx => ?_, ih hr⟩
        rcases mem_write hx with h | h
        · subst h; simp only; omega
        · exact hk x h

theorem Memory.wf_nil : Memory.wf [] := ⟨List.Pairwise.nil, fun _ h => nomatch h⟩

theorem Memory.read_zero (m : Memory) (i : Nat) : m.read i 0 = some [] := rfl

theorem Memory.read_succ (m : Memory) (i n : Nat) :
    m.read i (n + 1) = (m.byte? i).bind fun b => (m.read (i + 1) n).map (b :: ·) := by
  simp only [read]
  cases m.byte? i <;> cases m.read (i + 1) n <;> rfl

/-- A run of bytes is read exactly when each of them is. -/
theorem Memory.read_eq_some {m : Memory} {i n : Nat} {bs : List Byte} :
    m.read i n = some bs ↔ bs.length = n ∧ ∀ k (h : k < bs.length), m.byte? (i + k) = some bs[k] := by
  induction n generalizing i bs with
  | zero =>
    rw [read_zero]
    constructor
    · rintro ⟨⟩; exact ⟨rfl, fun k h => nomatch h⟩
    · rintro ⟨h, -⟩; rw [List.eq_nil_of_length_eq_zero h]
  | succ n ih =>
    rw [read_succ]
    constructor
    · intro h
      obtain ⟨b, hb, h⟩ := Option.bind_eq_some_iff.1 h
      obtain ⟨rest, hr, rfl⟩ := Option.map_eq_some_iff.1 h
      obtain ⟨hl, hk⟩ := ih.1 hr
      refine ⟨by simp [hl], fun k h => ?_⟩
      cases k with
      | zero => simpa using hb
      | succ k => simpa [Nat.add_assoc, Nat.add_comm 1 k] using hk k (by simpa using h)
    · rintro ⟨hl, hk⟩
      cases bs with
      | nil => simp at hl
      | cons b rest =>
        have h0 := hk 0 (by simp)
        simp only [Nat.add_zero, List.getElem_cons_zero] at h0
        have hr : m.read (i + 1) n = some rest := ih.2 ⟨by simpa using hl, fun k h => by
          have := hk (k + 1) (Nat.succ_lt_succ h)
          rwa [List.getElem_cons_succ, Nat.add_comm k 1, ← Nat.add_assoc] at this⟩
        simp [h0, hr]

theorem Memory.read_length {m : Memory} {i n : Nat} {bs : List Byte} (h : m.read i n = some bs) : bs.length = n :=
  (read_eq_some.1 h).1

/-- Reads agree on memories that agree on the run. -/
theorem Memory.read_congr {m m' : Memory} {i n : Nat} (h : ∀ a, i ≤ a → a < i + n → m.byte? a = m'.byte? a) :
    m.read i n = m'.read i n := by
  induction n generalizing i with
  | zero => rfl
  | succ n ih =>
    rw [read_succ, read_succ, h i (by omega) (by omega), ih fun a h1 h2 => h a (by omega) (by omega)]

/-- A write outside a run leaves its bytes as they were. -/
theorem Memory.read_write_of_not_mem (m : Memory) {i n a : Nat} (b : Byte) (h : a < i ∨ i + n ≤ a) :
    (m.write a b).read i n = m.read i n :=
  read_congr fun x h1 h2 => byte?_write_of_ne m b (by omega)

/-- A run that is readable stays so on every part of it. -/
theorem Memory.read_sub {m : Memory} {i n j k : Nat} {bs : List Byte} (h : m.read i n = some bs) (hj : j + k ≤ n) :
    m.read (i + j) k = some ((bs.drop j).take k) := by
  obtain ⟨hl, hk⟩ := read_eq_some.1 h
  refine read_eq_some.2 ⟨by simp [hl]; omega, fun x hx => ?_⟩
  simp only [List.length_take, List.length_drop, hl] at hx
  rw [Nat.add_assoc, hk (j + x) (by omega)]
  simp

/-- Writing the byte after a run extends it. -/
theorem Memory.read_write_snoc {m : Memory} {i : Nat} {bs : List Byte} (b : Byte)
    (h : m.read i bs.length = some bs) : (m.write (i + bs.length) b).read i (bs ++ [b]).length = some (bs ++ [b]) := by
  obtain ⟨-, hk⟩ := read_eq_some.1 h
  refine read_eq_some.2 ⟨rfl, fun k hx => ?_⟩
  rw [byte?_write]
  by_cases hkl : k < bs.length
  · rw [if_neg (by omega), hk k hkl, List.getElem_append_left hkl]
  · have : k = bs.length := by simp at hx; omega
    subst this
    simp

/-- A 16-bit read lies in any run that covers its two bytes. -/
theorem Memory.le16_of_read {m : Memory} {n j : Nat} {bs : List Byte} (h : m.read 0 n = some bs) (hj : j + 2 ≤ n) :
    m.le16 j = some (assemble 16 ((bs.drop j).take 2)) := by
  have := read_sub h hj
  rw [Nat.zero_add] at this
  simp [le16, this]

end Sys2Proof.Machine
end

