-- ==== Sys2Proof/Laws/Ops.lean ====
section
/-! SUPPORT. Each shared operation's one lemma: everything it can do when it answers a next state; and the CRC as a fold. -/

namespace Sys2Proof.Machine

theorem whenSelected_next {c : Bool} {o : Result} {t : State} (h : whenSelected c o = .next t) :
    c = true ∧ o = .next t := by
  cases c
  · cases h
  · exact ⟨rfl, h⟩

theorem withStored_next {s : State} {b : Byte} {k : State → Result} {t : State} (h : withStored s b k = .next t) :
    s.idx.toNat < Config.frameMax ∧ k (s.store b) = .next t := by
  unfold withStored at h
  split at h
  · exact ⟨‹_›, h⟩
  · cases h

theorem withValue_next {α : Type} {v : Option α} {k : α → Result} {t : State} (h : withValue v k = .next t) :
    ∃ a, v = some a ∧ k a = .next t := by
  cases v with
  | none => cases h
  | some a => exact ⟨a, rfl, h⟩

theorem withDecoded_next {α : Type} {v : Except Fault α} {k : α → Result} {t : State}
    (h : withDecoded v k = .next t) : ∃ a, v = .ok a ∧ k a = .next t := by
  cases v with
  | error e => cases h
  | ok a => exact ⟨a, rfl, h⟩

theorem andThen_next {o : Result} {k : State → Result} {t : State} (h : andThen o k = .next t) :
    ∃ u, o = .next u ∧ k u = .next t := by
  cases o with
  | next u => exact ⟨u, rfl, h⟩
  | fault f => cases h
  | refused r => cases h

@[simp] theorem whenSelected_true (o : Result) : whenSelected true o = o := rfl

@[simp] theorem withValue_some {α : Type} (a : α) (k : α → Result) : withValue (some a) k = k a := rfl

@[simp] theorem withDecoded_ok {α : Type} (a : α) (k : α → Result) : withDecoded (.ok a) k = k a := rfl

@[simp] theorem andThen_of_next (t : State) (k : State → Result) : andThen (.next t) k = k t := rfl

theorem withStored_of_lt {s : State} (b : Byte) (k : State → Result) (h : s.idx.toNat < Config.frameMax) :
    withStored s b k = k (s.store b) := if_pos h

@[simp] theorem crc32_nil : crc32 [] = 0 := rfl

theorem crc32_snoc (bs : List Byte) (b : Byte) : crc32 (bs ++ [b]) = crcStep (crc32 bs) b := by
  simp [crc32]

theorem crc32_singleton (b : Byte) : crc32 [b] = crcStep Config.crcInit b := rfl

/-- The index of a store inside the buffer does not wrap. -/
theorem State.store_idx_toNat {s : State} (b : Byte) (h : s.idx.toNat < Config.frameMax) :
    (s.store b).idx.toNat = s.idx.toNat + 1 := by
  simp only [Config.frameMax] at h
  simp only [State.store_idx, BitVec.toNat_add]
  have : (1 : BitVec 17).toNat = 1 := rfl
  omega

end Sys2Proof.Machine
end

