-- ==== Sys2Proof/Laws/Decode.lean ====
section
/-! SUPPORT. The fields of a selector word, and the row a response selects. -/

namespace Sys2Proof

@[simp] theorem selectorWord_kind (k : BitVec 2) (c : BitVec 4) (b : Byte) :
    (selectorWord k c b).extractLsb' 12 2 = k := by
  refine BitVec.eq_of_getLsbD_eq fun i hi => ?_
  have h1 : ¬12 + i < 8 := by omega
  have h2 : ¬12 + i - 8 < 4 := by omega
  rw [selectorWord, BitVec.getLsbD_extractLsb', BitVec.getLsbD_append, BitVec.getLsbD_append]
  simp only [h1, h2, hi, decide_true, Bool.true_and, if_false]
  congr 1
  omega

@[simp] theorem selectorWord_state (k : BitVec 2) (c : BitVec 4) (b : Byte) :
    (selectorWord k c b).extractLsb' 8 4 = c := by
  refine BitVec.eq_of_getLsbD_eq fun i hi => ?_
  have h1 : ¬8 + i < 8 := by omega
  have h2 : 8 + i - 8 < 4 := by omega
  rw [selectorWord, BitVec.getLsbD_extractLsb', BitVec.getLsbD_append, BitVec.getLsbD_append]
  simp only [h1, h2, hi, decide_true, Bool.true_and, if_false, if_true]
  congr 1
  omega

@[simp] theorem selectorWord_byte (k : BitVec 2) (c : BitVec 4) (b : Byte) :
    (selectorWord k c b).extractLsb' 0 8 = b := by
  refine BitVec.eq_of_getLsbD_eq fun i hi => ?_
  rw [selectorWord, BitVec.getLsbD_extractLsb', BitVec.getLsbD_append, BitVec.getLsbD_append]
  simp only [hi, decide_true, Bool.true_and, if_true, Nat.zero_add]

@[simp] theorem stateOfCode_codeOfState (st : ScanState) : stateOfCode (codeOfState st) = some st := by
  cases st <;> rfl

/-- A data response selects by state, byte and register condition (R88). -/
theorem decodeResponse_data (c : Conds) (st : ScanState) (b : Byte) :
    decodeResponse c (selectorOf (.data b) st) = decodeData c st b := by
  simp [decodeResponse, selectorOf]

/-- A Timeout selects RX.TIMEOUT in every state its word can name (R88, R123). -/
theorem decodeResponse_timeout (c : Conds) (st : ScanState) :
    decodeResponse c (selectorOf .timeout st) = .ok .rxTimeout := by
  simp [decodeResponse, selectorOf]

/-- An Error selects RX.ERROR in every state its word can name (R88, R123). -/
theorem decodeResponse_error (c : Conds) (st : ScanState) :
    decodeResponse c (selectorOf .error st) = .ok .rxError := by
  simp [decodeResponse, selectorOf]

end Sys2Proof
end

