-- ==== Sys2Proof/Laws/EnumTables.lean ====
section
/-! SUPPORT. A lookup in an admissible table: an entry is found under its key, and only its keys are found. -/

namespace Sys2Proof

theorem isI32_iff {code : Int} : isI32 code = true ↔ -(2 ^ 31) ≤ code ∧ code < 2 ^ 31 := by
  simp [isI32]

theorem LabelTable.key_isI32 (t : LabelTable) {e : Int × String} (he : e ∈ t.entries) : isI32 e.1 = true := by
  have h := t.admissible
  simp only [tableAdmissible, Bool.and_eq_true, List.all_eq_true] at h
  exact h.1 e he

theorem LabelTable.keys_nodup (t : LabelTable) : (t.entries.map Prod.fst).Nodup := by
  have h := t.admissible
  simp only [tableAdmissible, Bool.and_eq_true, decide_eq_true_eq] at h
  exact h.2

@[simp] theorem PostypeTable.toLabelTable_entries (t : PostypeTable) :
    t.toLabelTable.entries = (16, "SINGLE") :: t.others := rfl

end Sys2Proof

namespace Sys2Proof.Machine

theorem postypeEntries_eq : postypeEntries = (16, "SINGLE") :: Config.postypeOthers := rfl

/-- A lookup finds nothing exactly when no entry has the code as its key. -/
theorem lookup_eq_none {entries : List (Int × String)} {code : Int} :
    lookup entries code = none ↔ ∀ e ∈ entries, e.1 ≠ code := by
  induction entries with
  | nil => simp [lookup]
  | cons e rest ih =>
    obtain ⟨k, label⟩ := e
    simp only [lookup, List.forall_mem_cons]
    split
    · simp_all
    · simp_all

/-- Where the keys are distinct, an entry is found under its key. -/
theorem lookup_of_mem {entries : List (Int × String)} (hd : (entries.map Prod.fst).Nodup) {code : Int} {label : String}
    (h : (code, label) ∈ entries) : lookup entries code = some label := by
  induction entries with
  | nil => cases h
  | cons e rest ih =>
    obtain ⟨k, l⟩ := e
    obtain ⟨hk, hr⟩ := List.nodup_cons.1 hd
    rcases List.mem_cons.1 h with h | h
    · cases h
      exact if_pos rfl
    · have hne : k ≠ code := fun he => hk (List.mem_map.2 ⟨_, h, he.symm⟩)
      rw [lookup, if_neg hne, ih hr h]

/-- A code outside 32 signed bits is no key of a table. -/
theorem lookup_of_not_isI32 (t : LabelTable) {code : Int} (h : isI32 code = false) : lookup t.entries code = none :=
  lookup_eq_none.2 fun e he hc => by
    have hk := t.key_isI32 he
    rw [hc, h] at hk
    cases hk

end Sys2Proof.Machine
end

