-- ==== Sys2Proof/Laws/FieldDecoder.lean ====
section
/-! SUPPORT. The accessor layer and the decode rows: what each answers when its bytes are readable, and what each can do. -/

namespace Sys2Proof.Machine

@[simp] theorem except_bind_ok {α β : Type} (a : α) (f : α → Except Fault β) : (Except.ok a >>= f) = f a := rfl

theorem except_bind_eq_ok {α β : Type} {v : Except Fault α} {f : α → Except Fault β} {b : β} :
    (v >>= f) = .ok b ↔ ∃ a, v = .ok a ∧ f a = .ok b := by
  cases v with
  | error e => exact ⟨nofun, fun ⟨_, h, _⟩ => nomatch h⟩
  | ok a => exact ⟨fun h => ⟨a, rfl, h⟩, fun ⟨_, h, h'⟩ => by cases h; exact h'⟩

/-- A getter inside a readable frame answers its bytes (R163). -/
theorem State.field_ok {s : State} {off n : Nat} {bs : List Byte}
    (hin : s.hlen.toNat + off + n ≤ s.frameLen.toNat) (hr : s.buf.read (s.hlen.toNat + off) n = some bs) :
    s.field off n = .ok bs := by
  simp [State.field, hin, hr]

/-- A getter reads only the buffer, the header length and the frame length. -/
theorem State.field_congr {s t : State} (hb : t.buf = s.buf) (hh : t.hlen = s.hlen) (hf : t.frameLen = s.frameLen)
    (off n : Nat) : t.field off n = s.field off n := by
  simp [State.field, hb, hh, hf]

theorem State.getU8_congr {s t : State} (hb : t.buf = s.buf) (hh : t.hlen = s.hlen) (hf : t.frameLen = s.frameLen)
    (off : Nat) : t.getU8 off = s.getU8 off := by
  simp only [State.getU8, State.field_congr hb hh hf]

theorem State.getI32_congr {s t : State} (hb : t.buf = s.buf) (hh : t.hlen = s.hlen) (hf : t.frameLen = s.frameLen)
    (off : Nat) : t.getI32 off = s.getI32 off := by
  simp only [State.getI32, State.field_congr hb hh hf]

theorem State.getF32_congr {s t : State} (hb : t.buf = s.buf) (hh : t.hlen = s.hlen) (hf : t.frameLen = s.frameLen)
    (off : Nat) : t.getF32 off = s.getF32 off := by
  simp only [State.getF32, State.field_congr hb hh hf]

theorem State.getF64_congr {s t : State} (hb : t.buf = s.buf) (hh : t.hlen = s.hlen) (hf : t.frameLen = s.frameLen)
    (off : Nat) : t.getF64 off = s.getF64 off := by
  simp only [State.getF64, State.field_congr hb hh hf]

theorem State.getAscii_congr {s t : State} (hb : t.buf = s.buf) (hh : t.hlen = s.hlen) (hf : t.frameLen = s.frameLen)
    (n off : Nat) : t.getAscii n off = s.getAscii n off := by
  simp only [State.getAscii, State.field_congr hb hh hf]

/-- A position record depends on the frame and the parameters alone. -/
theorem State.positionRecord_congr {s t : State} (hb : t.buf = s.buf) (hh : t.hlen = s.hlen)
    (hf : t.frameLen = s.frameLen) (hc : t.cfg = s.cfg) : t.positionRecord = s.positionRecord := by
  simp only [State.positionRecord, State.getU8_congr hb hh hf, State.getI32_congr hb hh hf,
    State.getF32_congr hb hh hf, State.getF64_congr hb hh hf, State.getAscii_congr hb hh hf, hc]

theorem State.component_congr {s t : State} (hb : t.buf = s.buf) (hh : t.hlen = s.hlen)
    (hf : t.frameLen = s.frameLen) (i : Nat) : t.component i = s.component i := by
  simp only [State.component, State.getI32_congr hb hh hf, State.getAscii_congr hb hh hf]

theorem State.components_congr {s t : State} (hb : t.buf = s.buf) (hh : t.hlen = s.hlen)
    (hf : t.frameLen = s.frameLen) (i n : Nat) : t.components i n = s.components i n := by
  induction n generalizing i with
  | zero => rfl
  | succ n ih => simp only [State.components, State.component_congr hb hh hf, ih]

/-- A version record depends on the frame alone. -/
theorem State.versionRecord_congr {s t : State} (hb : t.buf = s.buf) (hh : t.hlen = s.hlen)
    (hf : t.frameLen = s.frameLen) : t.versionRecord = s.versionRecord := by
  simp only [State.versionRecord, State.getI32_congr hb hh hf, State.components_congr hb hh hf]

theorem execDecPos_next {s t : State} (h : execDecPos s = .next t) :
    s.st = .decode ∧ s.messageType = some s.cfg.msgidPosition ∧ s.posFits = true ∧
      ∃ p, s.positionRecord = .ok p ∧ t = s.setOutcome .position (.position p) := by
  obtain ⟨hs, h⟩ := whenSelected_next h
  obtain ⟨mt, hm, h⟩ := withValue_next h
  obtain ⟨hc, h⟩ := whenSelected_next h
  obtain ⟨p, hp, h⟩ := withDecoded_next h
  simp only [Bool.and_eq_true, beq_iff_eq] at hc hs
  cases h
  exact ⟨hs, hc.1 ▸ hm, hc.2, p, hp, rfl⟩

theorem execDecVer_next {s t : State} (h : execDecVer s = .next t) :
    s.st = .decode ∧ s.messageType = some s.cfg.msgidVersion ∧ s.verFits = .ok true ∧
      ∃ v, s.versionRecord = .ok v ∧ t = s.setOutcome .version (.version v) := by
  obtain ⟨hs, h⟩ := whenSelected_next h
  obtain ⟨mt, hm, h⟩ := withValue_next h
  obtain ⟨hc, h⟩ := whenSelected_next h
  obtain ⟨f, hf, h⟩ := withDecoded_next h
  obtain ⟨rfl, h⟩ := whenSelected_next h
  obtain ⟨v, hv, h⟩ := withDecoded_next h
  simp only [beq_iff_eq] at hc hs
  cases h
  exact ⟨hs, hc ▸ hm, hf, v, hv, rfl⟩

theorem execDecIntegrity_next {s t : State} (h : execDecIntegrity s = .next t) :
    s.st = .decode ∧ t = s.setOutcome .integrity .none ∧
      (s.messageType = some s.cfg.msgidPosition ∧ s.posFits = false ∨
        s.messageType = some s.cfg.msgidVersion ∧ s.verFits = .ok false) := by
  obtain ⟨hs, h⟩ := whenSelected_next h
  obtain ⟨mt, hm, h⟩ := withValue_next h
  simp only [beq_iff_eq] at hs
  split at h
  · obtain ⟨hc, h⟩ := whenSelected_next h
    cases h
    exact ⟨hs, rfl, .inl ⟨‹mt = _› ▸ hm, by simpa using hc⟩⟩
  · obtain ⟨hc, h⟩ := whenSelected_next h
    obtain ⟨f, hf, h⟩ := withDecoded_next h
    obtain ⟨hn, h⟩ := whenSelected_next h
    simp only [beq_iff_eq, Bool.not_eq_true'] at hc hn
    cases h
    exact ⟨hs, rfl, .inr ⟨hc ▸ hm, hn ▸ hf⟩⟩

theorem execDecOther_next {s t : State} (h : execDecOther s = .next t) :
    s.st = .decode ∧ t = s.setOutcome .unrecognized .none ∧
      ∃ mt, s.messageType = some mt ∧ mt ≠ s.cfg.msgidPosition ∧ mt ≠ s.cfg.msgidVersion := by
  obtain ⟨hs, h⟩ := whenSelected_next h
  obtain ⟨mt, hm, h⟩ := withValue_next h
  obtain ⟨hc, h⟩ := whenSelected_next h
  simp only [Bool.and_eq_true, bne_iff_ne] at hc
  cases h
  exact ⟨by simpa using hs, rfl, mt, hm, hc.1, hc.2⟩

/-- Everything DEC.DISPATCH can do: it is one of the four rows (R161). -/
theorem execDecDispatch_next {s t : State} (h : execDecDispatch s = .next t) :
    execDecPos s = .next t ∨ execDecVer s = .next t ∨ execDecIntegrity s = .next t ∨ execDecOther s = .next t := by
  obtain ⟨-, h⟩ := whenSelected_next h
  obtain ⟨mt, -, h⟩ := withValue_next h
  split at h
  · split at h
    · exact .inl h
    · exact .inr (.inr (.inl h))
  · split at h
    · obtain ⟨f, -, h⟩ := withDecoded_next h
      split at h
      · exact .inr (.inl h)
      · exact .inr (.inr (.inl h))
    · exact .inr (.inr (.inr h))

/-- Everything the decode step can do: an outcome of one of the four rows, then IDLE (R160). -/
theorem execDecStep_next {s t : State} (h : execDecStep s = .next t) :
    s.st = .decode ∧ ∃ r o, t = (s.setOutcome r o).goto .idle ∧
      ((r = .position ∧ ∃ p, o = .position p ∧ s.positionRecord = .ok p) ∨
        (r = .version ∧ ∃ v, o = .version v ∧ s.versionRecord = .ok v) ∨
        (r = .integrity ∧ o = .none) ∨ (r = .unrecognized ∧ o = .none)) := by
  obtain ⟨u, hu, h⟩ := andThen_next h
  cases h
  rcases execDecDispatch_next hu with h | h | h | h
  · obtain ⟨hs, -, -, p, hp, rfl⟩ := execDecPos_next h
    exact ⟨hs, _, _, rfl, .inl ⟨rfl, p, rfl, hp⟩⟩
  · obtain ⟨hs, -, -, v, hv, rfl⟩ := execDecVer_next h
    exact ⟨hs, _, _, rfl, .inr (.inl ⟨rfl, v, rfl, hv⟩)⟩
  · obtain ⟨hs, rfl, -⟩ := execDecIntegrity_next h
    exact ⟨hs, _, _, rfl, .inr (.inr (.inl ⟨rfl, rfl⟩))⟩
  · obtain ⟨hs, rfl, -⟩ := execDecOther_next h
    exact ⟨hs, _, _, rfl, .inr (.inr (.inr ⟨rfl, rfl⟩))⟩

end Sys2Proof.Machine
end

