-- ==== Sys2Proof/Laws/PerInstr.lean ====
section
/-! SUPPORT. Per operation: the word the encoder gives is one its row of spec/opcode_table.json matches, and it has a word
exactly when its row has a match and a mask. -/

namespace Sys2Proof.Laws.TableRow

/-- The (match, mask) pair of the operation's row; none for the rows of the decode and internal formats. -/
def row : Instr → Option (Nat × Nat)
  | .rxTimeout => some (0x1000, 0x3000)
  | .rxError => some (0x2000, 0x3000)
  | .sync1Match => some (0x01AA, 0x3FFF)
  | .sync1Skip _ => some (0x0100, 0x3F00)
  | .sync2Match => some (0x0244, 0x3FFF)
  | .sync2Reanchor => some (0x02AA, 0x3FFF)
  | .sync2Reset _ => some (0x0200, 0x3F00)
  | .sync3Match => some (0x0312, 0x3FFF)
  | .sync3Reanchor => some (0x03AA, 0x3FFF)
  | .sync3Reset _ => some (0x0300, 0x3F00)
  | .hlenAccept _ => some (0x0400, 0x3F00)
  | .hlenReject _ => some (0x0400, 0x3F00)
  | .hdrByte _ => some (0x0500, 0x3F00)
  | .hdrLast _ => some (0x0500, 0x3F00)
  | .bodyByte _ => some (0x0600, 0x3F00)
  | .bodyLast _ => some (0x0600, 0x3F00)
  | .trlByte _ => some (0x0700, 0x3F00)
  | .trlAccept _ => some (0x0700, 0x3F00)
  | .trlMismatch _ => some (0x0700, 0x3F00)
  | .decStep => none
  | .decDispatch => none
  | .decPos => none
  | .decVer => none
  | .decIntegrity => none
  | .decOther => none
  | .ctrlStart _ _ => some (0x01, 0x01)
  | .ctrlCfg _ _ => some (0x00, 0x01)
  | .crcXform _ => none
  | .crcStep _ _ => none
  | .crcBlock _ => none
  | .crcInit _ => none
  | .crcCheck _ _ => none
  | .asciiTrim _ => none
  | .flagTest _ _ => none
  | .lutSolstat _ => none
  | .lutPostype _ => none
  | .lutDatum _ => none
  | .lutComptype _ => none

/-- The selector as the table's number. -/
def number : Selector → Nat
  | .response w => w.toNat
  | .ctrl w => w.toNat

/-- The encoded word and the table's row agree. -/
def Statement (i : Instr) : Prop :=
  match encode i, row i with
  | some w, some (value, mask) => number w &&& mask = value
  | none, none => True
  | _, _ => False

theorem data_row (c : BitVec 4) (b : Byte) :
    (selectorWord 0 c b).toNat &&& 0x3F00 = c.toNat * 256 := by
  have h : selectorWord 0 c b &&& 0x3F00#14 = selectorWord 0 c 0 := by
    refine BitVec.eq_of_getLsbD_eq fun i hi => ?_
    simp only [selectorWord, BitVec.getLsbD_and, BitVec.getLsbD_append]
    interval_cases i <;> simp [BitVec.getLsbD]
    all_goals intro _; decide
  have h2 : ∀ c : BitVec 4, (selectorWord 0 c 0).toNat = c.toNat * 256 := by decide
  have h3 := congrArg BitVec.toNat h
  rw [BitVec.toNat_and, h2] at h3
  exact h3

theorem start_row (t : Bool) (r : BitVec 6) : (ctrlWord true t r).toNat &&& 1 = 1 := by
  revert t r; decide

theorem cfg_row (t : Bool) (r : BitVec 6) : (ctrlWord false t r).toNat &&& 1 = 0 := by
  revert t r; decide

theorem rxTimeout : Statement .rxTimeout := by show (_ : Nat) = _; decide
theorem rxError : Statement .rxError := by show (_ : Nat) = _; decide
theorem sync1Match : Statement .sync1Match := by show (_ : Nat) = _; decide
theorem sync1Skip (b : Byte) : Statement (.sync1Skip b) := data_row _ b
theorem sync2Match : Statement .sync2Match := by show (_ : Nat) = _; decide
theorem sync2Reanchor : Statement .sync2Reanchor := by show (_ : Nat) = _; decide
theorem sync2Reset (b : Byte) : Statement (.sync2Reset b) := data_row _ b
theorem sync3Match : Statement .sync3Match := by show (_ : Nat) = _; decide
theorem sync3Reanchor : Statement .sync3Reanchor := by show (_ : Nat) = _; decide
theorem sync3Reset (b : Byte) : Statement (.sync3Reset b) := data_row _ b
theorem hlenAccept (b : Byte) : Statement (.hlenAccept b) := data_row _ b
theorem hlenReject (b : Byte) : Statement (.hlenReject b) := data_row _ b
theorem hdrByte (b : Byte) : Statement (.hdrByte b) := data_row _ b
theorem hdrLast (b : Byte) : Statement (.hdrLast b) := data_row _ b
theorem bodyByte (b : Byte) : Statement (.bodyByte b) := data_row _ b
theorem bodyLast (b : Byte) : Statement (.bodyLast b) := data_row _ b
theorem trlByte (b : Byte) : Statement (.trlByte b) := data_row _ b
theorem trlAccept (b : Byte) : Statement (.trlAccept b) := data_row _ b
theorem trlMismatch (b : Byte) : Statement (.trlMismatch b) := data_row _ b
theorem decStep : Statement .decStep := trivial
theorem decDispatch : Statement .decDispatch := trivial
theorem decPos : Statement .decPos := trivial
theorem decVer : Statement .decVer := trivial
theorem decIntegrity : Statement .decIntegrity := trivial
theorem decOther : Statement .decOther := trivial
theorem ctrlStart (t : Bool) (r : BitVec 6) : Statement (.ctrlStart t r) := start_row t r
theorem ctrlCfg (t : Bool) (r : BitVec 6) : Statement (.ctrlCfg t r) := cfg_row t r
theorem crcXform (j : Byte) : Statement (.crcXform j) := trivial
theorem crcStep (a : Word) (b : Byte) : Statement (.crcStep a b) := trivial
theorem crcBlock (d : List Byte) : Statement (.crcBlock d) := trivial
theorem crcInit (b : Byte) : Statement (.crcInit b) := trivial
theorem crcCheck (t : Word) (a : Word) : Statement (.crcCheck t a) := trivial
theorem asciiTrim (f : List Byte) : Statement (.asciiTrim f) := trivial
theorem flagTest (v : Byte) (m : Byte) : Statement (.flagTest v m) := trivial
theorem lutSolstat (k : Int) : Statement (.lutSolstat k) := trivial
theorem lutPostype (k : Int) : Statement (.lutPostype k) := trivial
theorem lutDatum (k : Int) : Statement (.lutDatum k) := trivial
theorem lutComptype (k : Int) : Statement (.lutComptype k) := trivial

end Sys2Proof.Laws.TableRow
end

