-- ==== Sys2Proof/Laws/Step.lean ====
section
/-! SUPPORT. What a step can do: the host's turn or the core's, and in the core's each scanner operation's effect. -/

namespace Sys2Proof.Machine

/-- Everything a scanner operation chosen by a data byte can do, by state (R124 to R140). -/
theorem exec_decodeData_next {s t : State} {st : ScanState} {b : Byte} {i : Instr}
    (hst : s.st = st) (hd : decodeData s.conds st b = .ok i) (h : exec i s = .next t) :
    (st = .wantSync1 ∧ b ≠ Config.sync1 ∧ t = s) ∨
    (isReading st = true ∧ b = Config.sync1 ∧ (st = .wantSync1 ∨ st = .wantSync2 ∨ st = .wantSync3) ∧
      t = s.anchor b) ∨
    (isReading st = true ∧ st ≠ .wantSync1 ∧ t = s.drop) ∨
    (s.idx.toNat < Config.frameMax ∧
      ((st = .wantSync2 ∧ b = Config.sync2 ∧ t = (s.store b).goto .wantSync3) ∨
       (st = .wantSync3 ∧ b = Config.sync3 ∧ t = (s.store b).goto .wantHeaderLen) ∨
       (st = .wantHeaderLen ∧ Config.hdrMin ≤ b.toNat ∧ t = { s.store b with hlen := b, st := .headerRest }) ∨
       (st = .headerRest ∧ s.idx.toNat + 1 < s.hlen.toNat ∧ t = s.store b) ∨
       (st = .headerRest ∧ s.idx.toNat + 1 = s.hlen.toNat ∧ ∃ bl, (s.store b).buf.le16 8 = some bl ∧
         t = { s.store b with blen := bl, st := if 0 < bl.toNat then .body else .trailer }) ∨
       (st = .body ∧ s.idx.toNat + 1 < s.hlen.toNat + s.blen.toNat ∧ t = s.store b) ∨
       (st = .body ∧ s.idx.toNat + 1 = s.hlen.toNat + s.blen.toNat ∧ t = (s.store b).goto .trailer))) ∨
    (st = .trailer ∧ s.tcnt.toNat < 3 ∧
      t = { s with trl := s.trl ||| (b.setWidth 32 <<< (8 * s.tcnt.toNat)), tcnt := s.tcnt + 1 }) ∨
    (st = .trailer ∧ s.tcnt.toNat = 3 ∧ fullTrailer s.trl b = s.acc ∧
      t = { s with trl := fullTrailer s.trl b, tcnt := 4, frameLen := s.idx, st := .decode }) := by
  cases st <;> simp only [decodeData] at hd
  case idle => cases hd
  case decode => cases hd
  case wantSync1 =>
    split at hd <;> cases hd <;> obtain ⟨-, h⟩ := whenSelected_next h <;> cases h
    · subst_vars; exact .inr (.inl ⟨rfl, rfl, .inl rfl, rfl⟩)
    · exact .inl ⟨rfl, ‹_›, rfl⟩
  case wantSync2 =>
    split at hd
    · cases hd; obtain ⟨-, h⟩ := whenSelected_next h; obtain ⟨hi, h⟩ := withStored_next h; cases h
      subst_vars; exact .inr (.inr (.inr (.inl ⟨hi, .inl ⟨rfl, rfl, rfl⟩⟩)))
    · split at hd <;> cases hd <;> obtain ⟨-, h⟩ := whenSelected_next h <;> cases h
      · subst_vars; exact .inr (.inl ⟨rfl, rfl, .inr (.inl rfl), rfl⟩)
      · exact .inr (.inr (.inl ⟨rfl, nofun, rfl⟩))
  case wantSync3 =>
    split at hd
    · cases hd; obtain ⟨-, h⟩ := whenSelected_next h; obtain ⟨hi, h⟩ := withStored_next h; cases h
      subst_vars; exact .inr (.inr (.inr (.inl ⟨hi, .inr (.inl ⟨rfl, rfl, rfl⟩)⟩)))
    · split at hd <;> cases hd <;> obtain ⟨-, h⟩ := whenSelected_next h <;> cases h
      · subst_vars; exact .inr (.inl ⟨rfl, rfl, .inr (.inr rfl), rfl⟩)
      · exact .inr (.inr (.inl ⟨rfl, nofun, rfl⟩))
  case wantHeaderLen =>
    split at hd
    · cases hd; obtain ⟨-, h⟩ := whenSelected_next h; obtain ⟨hi, h⟩ := withStored_next h; cases h
      exact .inr (.inr (.inr (.inl ⟨hi, .inr (.inr (.inl ⟨rfl, ‹_›, rfl⟩))⟩)))
    · cases hd; obtain ⟨-, h⟩ := whenSelected_next h; cases h
      exact .inr (.inr (.inl ⟨rfl, nofun, rfl⟩))
  case headerRest =>
    split at hd
    · cases hd; obtain ⟨-, h⟩ := whenSelected_next h; obtain ⟨hi, h⟩ := withStored_next h; cases h
      exact .inr (.inr (.inr (.inl ⟨hi, .inr (.inr (.inr (.inl ⟨rfl, ‹_›, rfl⟩)))⟩)))
    · split at hd
      · cases hd; obtain ⟨-, h⟩ := whenSelected_next h; obtain ⟨hi, h⟩ := withStored_next h
        obtain ⟨bl, hb, h⟩ := withValue_next h; cases h
        exact .inr (.inr (.inr (.inl ⟨hi, .inr (.inr (.inr (.inr (.inl ⟨rfl, ‹_›, bl, hb, rfl⟩))))⟩)))
      · cases hd
  case body =>
    split at hd
    · cases hd; obtain ⟨-, h⟩ := whenSelected_next h; obtain ⟨hi, h⟩ := withStored_next h; cases h
      exact .inr (.inr (.inr (.inl ⟨hi, .inr (.inr (.inr (.inr (.inr (.inl ⟨rfl, ‹_›, rfl⟩)))))⟩)))
    · split at hd
      · cases hd; obtain ⟨-, h⟩ := whenSelected_next h; obtain ⟨hi, h⟩ := withStored_next h; cases h
        exact .inr (.inr (.inr (.inl ⟨hi, .inr (.inr (.inr (.inr (.inr (.inr ⟨rfl, ‹_›, rfl⟩)))))⟩)))
      · cases hd
  case trailer =>
    split at hd
    · cases hd; obtain ⟨-, h⟩ := whenSelected_next h; cases h
      exact .inr (.inr (.inr (.inr (.inl ⟨rfl, ‹_›, rfl⟩))))
    · split at hd
      · split at hd <;> cases hd <;> obtain ⟨-, h⟩ := whenSelected_next h <;> cases h
        · exact .inr (.inr (.inr (.inr (.inr ⟨rfl, ‹_›, ‹_›, rfl⟩))))
        · exact .inr (.inr (.inl ⟨rfl, nofun, rfl⟩))
      · cases hd

/-- Everything the core's move can be (R121, R160): the decode step, an answer that selects an operation, or a hold. -/
theorem coreFetch_cases (s : State) :
    (s.st = .decode ∧ coreFetch s = .run .decStep s) ∨
    (s.st ≠ .decode ∧ (isReading s.st = false ∨ s.stream = []) ∧ coreFetch s = .done (.next s)) ∨
    (isReading s.st = true ∧ ∃ r rest, s.stream = r :: rest ∧
      ((∃ i, decodeResponse s.conds (selectorOf r s.st) = .ok i ∧ coreFetch s = .run i (s.setStream rest)) ∨
       (∃ e, decodeResponse s.conds (selectorOf r s.st) = .error e ∧
         coreFetch s = .done (.refused (.undecodable e))))) := by
  unfold coreFetch
  by_cases hd : s.st = .decode
  · exact .inl ⟨hd, if_pos hd⟩
  rw [if_neg hd]
  by_cases hr : isReading s.st = true
  · rw [if_pos hr]
    cases hs : s.stream with
    | nil => exact .inr (.inl ⟨hd, .inr rfl, rfl⟩)
    | cons r rest =>
      refine .inr (.inr ⟨hr, r, rest, rfl, ?_⟩)
      simp only [decode]
      cases hi : decodeResponse s.conds (selectorOf r s.st) with
      | ok i => exact .inl ⟨i, rfl, rfl⟩
      | error e => exact .inr ⟨e, rfl, rfl⟩
  · rw [if_neg hr]
    exact .inr (.inl ⟨hd, .inl (by simpa using hr), rfl⟩)

/-- A step with no host turn listed is the core's move. -/
theorem step_core {s : State} (h : s.host = []) :
    step s = runFetched (coreFetch s) := by
  simp [step, fetch, h]

/-- A step whose host turn is `pass` is the core's move on the remaining turns. -/
theorem step_pass {s : State} {rest : List HostTurn} (h : s.host = .pass :: rest) :
    step s = runFetched (coreFetch (s.setHost rest)) := by
  simp [step, fetch, hostFetch, h]

/-- Everything the core's move can do when it answers a next state: the decode step; a hold; or an answer taken, which
ends the scan (Timeout, Error) or runs the operation its byte selects. -/
theorem coreFetch_next {s t : State} (h : runFetched (coreFetch s) = .next t) :
    (s.st = .decode ∧ execDecStep s = .next t) ∨
    (s.st ≠ .decode ∧ (isReading s.st = false ∨ s.stream = []) ∧ t = s) ∨
    (isReading s.st = true ∧ ∃ rest,
      (s.stream = .timeout :: rest ∧ s.tmoEn = true ∧ t = (s.setStream rest).endScan .timeout) ∨
      (s.stream = .error :: rest ∧ t = (s.setStream rest).endScan .transport) ∨
      ∃ b i, s.stream = .data b :: rest ∧ decodeData s.conds s.st b = .ok i ∧
        exec i (s.setStream rest) = .next t) := by
  rcases coreFetch_cases s with ⟨hs, hf⟩ | ⟨hs, hn, hf⟩ | ⟨hr, r, rest, hs, ⟨i, hi, hf⟩ | ⟨e, hi, hf⟩⟩ <;> rw [hf] at h
  · exact .inl ⟨hs, h⟩
  · cases h
    exact .inr (.inl ⟨hs, hn, rfl⟩)
  · refine .inr (.inr ⟨hr, rest, ?_⟩)
    cases r with
    | data b => exact .inr (.inr ⟨b, i, hs, by rwa [decodeResponse_data] at hi, h⟩)
    | timeout =>
      rw [decodeResponse_timeout] at hi
      cases hi
      obtain ⟨-, h⟩ := whenSelected_next h
      split at h <;> cases h
      exact .inl ⟨hs, ‹_›, rfl⟩
    | error =>
      rw [decodeResponse_error] at hi
      cases hi
      obtain ⟨-, h⟩ := whenSelected_next h
      cases h
      exact .inr (.inl ⟨hs, rfl⟩)
  · cases h

/-- Everything a step can do when it answers a next state: the core's move, or one turn of the host. -/
theorem step_next {s t : State} (h : step s = .next t) :
    (∃ turns, (s.host = .pass :: turns ∨ s.host = [] ∧ turns = []) ∧
      runFetched (coreFetch (s.setHost turns)) = .next t) ∨
    (∃ turns w, s.host = .write (.reg 0) w :: turns ∧ exec (decodeCtrl w) (s.setHost turns) = .next t) ∨
    (∃ turns target w, s.host = .write target w :: turns ∧ target ≠ .reg 0 ∧ t = s.setHost turns) ∨
    (∃ turns target, s.host = .read target :: turns ∧ hostRead (s.setHost turns) target = .next t) ∨
    (∃ turns, s.host = .reset :: turns ∧ t = (s.setHost turns).resetCore) := by
  cases hh : s.host with
  | nil =>
    rw [step_core hh] at h
    exact .inl ⟨[], .inr ⟨rfl, rfl⟩, by cases s; subst hh; exact h⟩
  | cons turn turns =>
    simp only [step, fetch, hh] at h
    cases turn with
    | pass => exact .inl ⟨turns, .inl rfl, h⟩
    | read target => exact .inr (.inr (.inr (.inl ⟨turns, target, rfl, h⟩)))
    | reset =>
      cases h
      exact .inr (.inr (.inr (.inr ⟨turns, rfl, rfl⟩)))
    | write target w =>
      simp only [hostFetch, isCtrl, beq_iff_eq] at h
      split at h
      · subst_vars
        exact .inr (.inl ⟨turns, w, rfl, h⟩)
      · cases h
        exact .inr (.inr (.inl ⟨turns, target, w, rfl, ‹_›, rfl⟩))

end Sys2Proof.Machine
end

