-- ==== Sys2Proof/Tests/Slice0.lean ====
section
/-! SUPPORT. Small tests: the well-formedness checks, words written out from the tables of spec/30_encoding.md, one or two
steps per operation from the vectors of spec/95_test_vectors.md, and a witness for every statement with hypotheses. -/

namespace Sys2Proof.Tests

open Sys2Proof.Machine Sys2Proof.Certificates

/-! ### Small states -/

/-- The bytes from index 0 on. -/
def bufOf (bs : List Byte) : Memory := (List.range bs.length).zip bs

/-- A scan in progress whose candidate so far is `bs`. -/
def scanning (st : ScanState) (bs : List Byte) (hlen : BitVec 8) (blen : BitVec 16) : State :=
  { State.reset with
    st := st
    buf := bufOf bs
    idx := BitVec.ofNat 17 bs.length
    acc := crc32 bs
    hlen := hlen
    blen := blen }

/-- A frame just accepted, waiting for its decode step. -/
def deciding (bs : List Byte) (hlen : BitVec 8) (blen : BitVec 16) : State :=
  { scanning .decode bs hlen blen with
    frameLen := BitVec.ofNat 17 bs.length
    trl := crc32 bs
    tcnt := 4 }

/-- The three preamble bytes (R71). -/
def preamble : List Byte := [0xAA, 0x44, 0x12]

/-- A 10-byte header of a message type and a body length (R71 to R75). -/
def header (mtLo mtHi bLo bHi : Byte) : List Byte := [0xAA, 0x44, 0x12, 0x0A, mtLo, mtHi, 0x00, 0x00, bLo, bHi]

/-- The frame of vector CRC-10: message type 0, no body. -/
def smallest : List Byte := header 0x00 0x00 0x00 0x00

/-- DEC-1: message type 0x1234, no body. -/
def otherFrame : State := deciding (header 0x34 0x12 0x00 0x00) 10 0

/-- The body of DEC-6. -/
def posBody : List Byte :=
  [0xFF, 0xFF, 0xFF, 0xFF, 0x10, 0x00, 0x00, 0x00] ++ List.replicate 28 0x00 ++ [0xFF, 0xFF, 0xFF, 0x7F] ++
    List.replicate 12 0x00 ++ [0x57, 0x58, 0x59, 0x5A] ++ List.replicate 8 0x00 ++
    [0x01, 0x02, 0x03, 0x04, 0xEE, 0x06, 0xFF, 0x00]

/-- DEC-6: a position frame. -/
def posFrame : State := deciding (header 0x2A 0x00 0x48 0x00 ++ posBody) 10 72

/-- DEC-2: a position frame without a body. -/
def shortPosFrame : State := deciding (header 0x2A 0x00 0x00 0x00) 10 0

/-- DEC-9: a version frame with the count -1. -/
def verFrame : State := deciding (header 0x25 0x00 0x04 0x00 ++ [0xFF, 0xFF, 0xFF, 0xFF]) 10 4

/-- DEC-11: a version frame with one component. -/
def verOneFrame : State :=
  deciding (header 0x25 0x00 0x70 0x00 ++ [0x01, 0x00, 0x00, 0x00] ++ List.replicate 108 0x00) 10 112

/-- DEC-14: a version frame whose count does not fit. -/
def shortVerFrame : State := deciding (header 0x25 0x00 0x04 0x00 ++ [0xFF, 0xFF, 0xFF, 0x7F]) 10 4

/-- Does the operation answer a next state with the property? -/
def nextIs (o : Result) (p : State → Bool) : Bool :=
  match o with
  | .next t => p t
  | .fault _ => false
  | .refused _ => false

/-- The property of the position record a state holds. -/
def positionIs (s : State) (p : PositionRecord → Bool) : Bool :=
  match s.record with
  | .none => false
  | .position r => p r
  | .version _ => false

/-- The property of the version record a state holds. -/
def versionIs (s : State) (p : VersionRecord → Bool) : Bool :=
  match s.record with
  | .none => false
  | .position _ => false
  | .version r => p r

/-! ### Well-formedness: an ill-formed term for each check, refused -/

theorem test_wf_sync1Skip : (Instr.sync1Skip 0xAA).wellFormed = false := by decide
theorem test_wf_sync2Reset_sync2 : (Instr.sync2Reset 0x44).wellFormed = false := by decide
theorem test_wf_sync2Reset_sync1 : (Instr.sync2Reset 0xAA).wellFormed = false := by decide
theorem test_wf_sync3Reset_sync3 : (Instr.sync3Reset 0x12).wellFormed = false := by decide
theorem test_wf_sync3Reset_sync1 : (Instr.sync3Reset 0xAA).wellFormed = false := by decide
theorem test_wf_hlenAccept : (Instr.hlenAccept 9).wellFormed = false := by decide
theorem test_wf_hlenReject : (Instr.hlenReject 10).wellFormed = false := by decide
theorem test_wf_crcInit : (Instr.crcInit 0x44).wellFormed = false := by decide
theorem test_wf_asciiTrim : (Instr.asciiTrim [0x41, 0x42, 0x43]).wellFormed = false := by decide
theorem test_wf_lutSolstat : (Instr.lutSolstat 2147483648).wellFormed = false := by decide
theorem test_wf_lutPostype : (Instr.lutPostype (-2147483649)).wellFormed = false := by decide
theorem test_wf_lutDatum : (Instr.lutDatum 2147483648).wellFormed = false := by decide
theorem test_wf_lutComptype : (Instr.lutComptype (-2147483649)).wellFormed = false := by decide

/-! ### Table parameters: what breaks R205 is refused -/

theorem test_table_key_too_large : tableAdmissible [(2147483648, "A")] = false := by decide
theorem test_table_key_too_small : tableAdmissible [(-2147483649, "A")] = false := by decide
theorem test_table_key_twice : tableAdmissible [(0, "A"), (1, "B"), (0, "A")] = false := by decide
theorem test_postype_key_16_twice : tableAdmissible [(16, "SINGLE"), (16, "A")] = false := by decide

/-! ### Words from R88 and R90: `kind` 13:12, `st` 11:8, `byte` 7:0, the less significant byte first -/

theorem test_word_rxTimeout : decodeBytes tableConds [0b00000000, 0b00010001] = .ok .rxTimeout := by rfl
theorem test_word_rxError : decodeBytes tableConds [0b00000000, 0b00100001] = .ok .rxError := by rfl
theorem test_word_sync1Match : decodeBytes tableConds [0b10101010, 0b00000001] = .ok .sync1Match := by rfl
theorem test_word_sync1Skip : decodeBytes tableConds [0b00010011, 0b00000001] = .ok (.sync1Skip 0x13) := by rfl
theorem test_word_sync2Match : decodeBytes tableConds [0b01000100, 0b00000010] = .ok .sync2Match := by rfl
theorem test_word_sync2Reanchor : decodeBytes tableConds [0b10101010, 0b00000010] = .ok .sync2Reanchor := by rfl
theorem test_word_sync2Reset : decodeBytes tableConds [0b00010010, 0b00000010] = .ok (.sync2Reset 0x12) := by rfl
theorem test_word_sync3Match : decodeBytes tableConds [0b00010010, 0b00000011] = .ok .sync3Match := by rfl
theorem test_word_sync3Reanchor : decodeBytes tableConds [0b10101010, 0b00000011] = .ok .sync3Reanchor := by rfl
theorem test_word_sync3Reset : decodeBytes tableConds [0b01000100, 0b00000011] = .ok (.sync3Reset 0x44) := by rfl
theorem test_word_hlenAccept : decodeBytes tableConds [0b00001010, 0b00000100] = .ok (.hlenAccept 10) := by rfl
theorem test_word_hlenReject : decodeBytes tableConds [0b00001001, 0b00000100] = .ok (.hlenReject 9) := by rfl
theorem test_word_hdrByte :
    decodeBytes { tableConds with idx := 8 } [0b00000001, 0b00000101] = .ok (.hdrByte 1) := by rfl
theorem test_word_hdrLast :
    decodeBytes { tableConds with idx := 9 } [0b00000001, 0b00000101] = .ok (.hdrLast 1) := by rfl
theorem test_word_bodyByte :
    decodeBytes { tableConds with idx := 10 } [0b01010101, 0b00000110] = .ok (.bodyByte 0x55) := by rfl
theorem test_word_bodyLast :
    decodeBytes { tableConds with idx := 11 } [0b01100110, 0b00000110] = .ok (.bodyLast 0x66) := by rfl
theorem test_word_trlByte :
    decodeBytes { tableConds with tcnt := 2 } [0b10011011, 0b00000111] = .ok (.trlByte 0x9B) := by rfl
theorem test_word_trlAccept :
    decodeBytes { tableConds with tcnt := 3, trl := 0x009B4836, acc := 0x479B4836 } [0b01000111, 0b00000111] =
      .ok (.trlAccept 0x47) := by rfl
theorem test_word_trlMismatch :
    decodeBytes { tableConds with tcnt := 3, trl := 0x009B4837, acc := 0x479B4836 } [0b01000111, 0b00000111] =
      .ok (.trlMismatch 0x47) := by rfl
theorem test_word_ctrlStart : decodeBytes tableConds [0b11111101] = .ok (.ctrlStart false 0b111111) := by rfl
theorem test_word_ctrlCfg : decodeBytes tableConds [0b00000110] = .ok (.ctrlCfg true 0b000001) := by rfl

theorem test_word_reserved_kind :
    decodeBytes tableConds [0b00000000, 0b00110001] = .error .reservedKind := by rfl
theorem test_word_reserved_state :
    decodeBytes tableConds [0b00000000, 0b00001001] = .error .reservedState := by rfl
theorem test_word_too_long : decodeBytes tableConds [0b00000000, 0b01000001] = .error .notASelector := by rfl

/-! The message types of R82 choose their rows (R89, R161). DEC.STEP, DEC.DISPATCH and the internal rows have no word. -/

theorem test_message_decPos : decodeMessage Params.default 42 true false = .decPos := by decide
theorem test_message_decVer : decodeMessage Params.default 37 false true = .decVer := by decide
theorem test_message_decIntegrity : decodeMessage Params.default 42 false true = .decIntegrity := by decide
theorem test_message_decOther : decodeMessage Params.default 0x1234 true true = .decOther := by decide

/-! A table row's word is what the very next step runs, from reset. -/

theorem test_fetch_ctrlStart : nextIs (step (State.reset.withFetchWord 8 0x01)) (fun t => t.st == .wantSync1) := by decide
theorem test_fetch_sync3Match :
    nextIs (step (State.reset.withFetchWord 14 0x0312)) (fun t => t.st == .wantHeaderLen && t.idx == 3) := by decide

/-! ### Scanner operations, from SCAN-1 to SCAN-26 -/

theorem test_sync1Skip : nextIs (exec (.sync1Skip 0x13) (scanning .wantSync1 [] 0 0)) (fun t => t.statusReg == 0x18) := by
  decide
theorem test_sync1Match : nextIs (exec .sync1Match (scanning .wantSync1 [] 0 0))
    (fun t => t.statusReg == 0x28 && t.idx == 1 && t.acc == 0x36034AF6) := by decide
theorem test_sync2Match : nextIs (exec .sync2Match (scanning .wantSync2 [0xAA] 0 0))
    (fun t => t.statusReg == 0x38 && t.idx == 2 && t.acc == 0x2559D1EA) := by decide
theorem test_sync2Reanchor : nextIs (exec .sync2Reanchor (scanning .wantSync2 [0xAA] 0 0))
    (fun t => t.statusReg == 0x28 && t.idx == 1 && t.acc == 0x36034AF6) := by decide
theorem test_sync2Reset : nextIs (exec (.sync2Reset 0x13) (scanning .wantSync2 [0xAA] 0 0))
    (fun t => t.statusReg == 0x18 && t.idx == 0 && t.acc == 0) := by decide
theorem test_sync3Match : nextIs (exec .sync3Match (scanning .wantSync3 [0xAA, 0x44] 0 0))
    (fun t => t.statusReg == 0x48 && t.idx == 3 && t.acc == 0xB34323FF) := by decide
theorem test_sync3Reanchor : nextIs (exec .sync3Reanchor (scanning .wantSync3 [0xAA, 0x44] 0 0))
    (fun t => t.statusReg == 0x28 && t.idx == 1 && t.acc == 0x36034AF6) := by decide
theorem test_sync3Reset : nextIs (exec (.sync3Reset 0x00) (scanning .wantSync3 [0xAA, 0x44] 0 0))
    (fun t => t.statusReg == 0x18 && t.idx == 0) := by decide
theorem test_hlenAccept : nextIs (exec (.hlenAccept 0xAA) (scanning .wantHeaderLen preamble 0 0))
    (fun t => t.statusReg == 0x58 && t.hlen == 170 && t.idx == 4) := by decide
theorem test_hlenReject : nextIs (exec (.hlenReject 0x09) (scanning .wantHeaderLen preamble 0 0))
    (fun t => t.statusReg == 0x18 && t.idx == 0) := by decide
theorem test_hdrByte : nextIs (exec (.hdrByte 0x01) (scanning .headerRest (preamble ++ [0x0A]) 10 0))
    (fun t => t.statusReg == 0x58 && t.buf.byte? 4 == some 0x01) := by decide
theorem test_hdrLast_body : nextIs (exec (.hdrLast 0x01) (scanning .headerRest (smallest.take 9) 10 0))
    (fun t => t.statusReg == 0x68 && t.blen == 0x0100) := by decide
theorem test_hdrLast_no_body : nextIs (exec (.hdrLast 0x00) (scanning .headerRest (smallest.take 9) 10 0))
    (fun t => t.statusReg == 0x78 && t.blen == 0 && t.acc == 0xA7EAA10B) := by decide
theorem test_bodyByte : nextIs (exec (.bodyByte 0x55) (scanning .body (header 0x01 0x00 0x02 0x00) 10 2))
    (fun t => t.statusReg == 0x68 && t.buf.byte? 10 == some 0x55) := by decide
theorem test_bodyLast : nextIs (exec (.bodyLast 0x66) (scanning .body (header 0x01 0x00 0x02 0x00 ++ [0x55]) 10 2))
    (fun t => t.statusReg == 0x78 && t.acc == 0x479B4836) := by decide
theorem test_trlByte : nextIs (exec (.trlByte 0x9B) { scanning .trailer smallest 10 0 with trl := 0x4836, tcnt := 2 })
    (fun t => t.trl == 0x009B4836 && t.tcnt == 3 && t.idx == 10) := by decide
theorem test_trlAccept : nextIs
    (exec (.trlAccept 0xA7) { scanning .trailer smallest 10 0 with trl := 0x00EAA10B, tcnt := 3 })
    (fun t => t.st == .decode && t.frameLen == 10) := by decide
theorem test_trlMismatch : nextIs
    (exec (.trlMismatch 0xA7) { scanning .trailer smallest 10 0 with trl := 0x00EAA10A, tcnt := 3 })
    (fun t => t.statusReg == 0x18 && t.idx == 0 && t.res == .none) := by decide
theorem test_rxTimeout : nextIs (exec .rxTimeout (scanning .wantSync3 [0xAA, 0x44] 0 0))
    (fun t => t.statusReg == 0x05 && t.frameLen == 0) := by decide
theorem test_rxError : nextIs (exec .rxError (scanning .wantSync1 [] 0 0)) (fun t => t.statusReg == 0x06) := by decide
theorem test_ctrlStart : nextIs (exec (.ctrlStart true 0) State.reset)
    (fun t => t.statusReg == 0x18 && t.tmoEn && t.frameLen == 0) := by decide
theorem test_ctrlStart_busy : nextIs (exec (.ctrlStart false 0) (scanning .wantSync3 [0xAA, 0x44] 0 0))
    (fun t => t.fault.startWhileBusy && t.st == .wantSync3 && t.tmoEn && !t.ctrlTmoEn) := by decide
theorem test_ctrlCfg : nextIs (exec (.ctrlCfg false 0) (scanning .body smallest 10 2))
    (fun t => !t.ctrlTmoEn && t.tmoEn && !t.fault.startWhileBusy) := by decide

/-! ### Field decoder, from DEC-1 to DEC-14, TRIM and FLAG vectors -/

theorem test_decOther : nextIs (exec .decOther otherFrame)
    (fun t => t.res == .unrecognized && t.record == .none && t.frameLen == 10) := by decide
theorem test_decIntegrity : nextIs (exec .decIntegrity shortPosFrame) (fun t => t.res == .integrity) := by decide
theorem test_decIntegrity_version : nextIs (exec .decIntegrity shortVerFrame) (fun t => t.res == .integrity) := by decide
theorem test_decPos : nextIs (exec .decPos posFrame) (fun t => t.res == .position && positionIs t fun p =>
    p.solStatus == -1 && p.posType == 16 && p.datum == 2147483647 && p.stnId == [0x57, 0x58, 0x59, 0x5A]) := by decide
theorem test_decPos_flags : nextIs (exec .decPos posFrame) (fun t => positionIs t fun p =>
    p.numSvs == 1 && p.numSolnMultiSvs == 4 && p.ionoMultifreq && p.galE1 && p.bdsB1 && p.bdsB2 && !p.gpsL1 &&
      !p.gloL1) := by decide
theorem test_decVer : nextIs (exec .decVer verFrame) (fun t => t.res == .version && versionIs t fun v =>
    v.count == -1 && v.components == []) := by decide
set_option maxRecDepth 4000 in
theorem test_decVer_component : nextIs (exec .decVer verOneFrame) (fun t => versionIs t fun v =>
    v.count == 1 && v.components.map (fun c => (c.compType, c.model, c.compTime)) == [(0, [], [])]) := by decide
theorem test_decDispatch : nextIs (exec .decDispatch shortVerFrame) (fun t => t.res == .integrity) := by decide
theorem test_decStep : nextIs (exec .decStep otherFrame) (fun t => t.statusReg == 0x03 && t.frameLen == 10) := by decide

theorem test_asciiTrim : nextIs (exec (.asciiTrim [0x41, 0x42, 0x00, 0x5A]) State.reset)
    (fun t => t.result == .bytes [0x41, 0x42]) := by decide
theorem test_flagTest : nextIs (exec (.flagTest 0x21 0x20) State.reset) (fun t => t.result == .bool true) := by decide
theorem test_flagTest_partial : nextIs (exec (.flagTest 0x02 0x06) State.reset) (fun t => t.result == .bool false) := by
  decide
theorem test_lutPostype :
    exec (.lutPostype 16) State.reset = .next { State.reset with result := .label "SINGLE" } := by rfl
theorem test_lutSolstat : nextIs (exec (.lutSolstat 0) State.reset) (fun t => t.st == .idle && t.acc == 0) := by decide
theorem test_lutDatum : nextIs (exec (.lutDatum (-1)) State.reset) (fun t => t.st == .idle && t.acc == 0) := by decide
theorem test_lutComptype : nextIs (exec (.lutComptype 0) State.reset) (fun t => t.st == .idle && t.acc == 0) := by decide

/-! ### Host accesses, from HOST-1 to HOST-5 -/

theorem test_read_ctrl_after_reset : nextIs (step { State.reset with host := [.read (.reg 0)] })
    (fun t => t.reply == .word 0x02) := by decide
theorem test_read_frame_after_reset : nextIs (step { State.reset with host := [.read (.frame 0)] })
    (fun t => t.fault.frameReadOutOfRange && t.reply == .nothing) := by decide
theorem test_read_header_length_byte : nextIs (step { otherFrame with host := [.read (.frame 3)] })
    (fun t => t.reply == .word 0x0A) := by decide
theorem test_read_message_type : nextIs (step { otherFrame with host := [.read (.reg 5)] })
    (fun t => t.reply == .word 0x1234) := by decide
theorem test_read_past_frame : nextIs (step { otherFrame with host := [.read (.frame 10)] })
    (fun t => t.fault.frameReadOutOfRange && t.st == .decode) := by decide
theorem test_read_reserved : nextIs (step { otherFrame with host := [.read (.reg 0xFF)] })
    (fun t => t.reply == .word 0) := by decide

/-! ### CRC engine, from CRC-1 to CRC-18 -/

theorem test_crcXform : nextIs (exec (.crcXform 0x44) State.reset) (fun t => t.result == .word 0x71B18589) := by decide
theorem test_crcXform_top : nextIs (exec (.crcXform 0x80) State.reset) (fun t => t.result == .word 0xEDB88320) := by
  decide
theorem test_crcStep : nextIs (exec (.crcStep 0x12345678 0x9A) State.reset) (fun t => t.acc == 0x4E16B702) := by decide
theorem test_crcStep_ones : nextIs (exec (.crcStep 0xFFFFFFFF 0x00) State.reset)
    (fun t => t.result == .word 0x2DFD1072) := by decide
theorem test_crcBlock : nextIs (exec (.crcBlock [0x61]) State.reset) (fun t => t.result == .word 0x3AB551CE) := by decide
theorem test_crcBlock_frame : nextIs (exec (.crcBlock smallest) State.reset) (fun t => t.result == .word 0xA7EAA10B) := by
  decide
theorem test_crcInit : nextIs (exec (.crcInit 0xAA) State.reset) (fun t => t.acc == 0x36034AF6) := by decide
theorem test_crcCheck : nextIs (exec (.crcCheck 0x2DFD2D88 0x2DFD2D88) State.reset) (fun t => t.result == .bool true) := by
  decide
theorem test_crcCheck_differs : nextIs (exec (.crcCheck 0xCBF43926 0x2DFD2D88) State.reset)
    (fun t => t.result == .bool false) := by decide

/-! ### Witnesses: a concrete input meets the hypotheses of each statement, one for each of its clauses -/

/-- The bytes of a list, by index. -/
def bytesOf (bs : List Byte) (a : Nat) : Byte := bs.getD a 0

theorem witness_crc32_equal_lengths : ([0x01, 0x02] : List Byte).length = ([0xFF, 0x00] : List Byte).length := by decide

theorem witness_trim : ([0x41, 0x42, 0x00, 0x5A] : List Byte) = [0x41, 0x42] ++ 0 :: [0x5A] ∧
    ∀ b ∈ ([0x41, 0x42] : List Byte), b ≠ 0 := by decide

theorem witness_trim_whole : ∀ b ∈ ([0x57, 0x58, 0x59, 0x5A] : List Byte), b ≠ 0 := by decide

/-- A table with the two extreme keys. -/
def extremeTable : LabelTable where
  entries := [(-2147483648, "A"), (2147483647, "B")]
  admissible := by decide

theorem witness_tables :
    ((-2147483648, "A") ∈ extremeTable.entries ∧ (2147483647, "B") ∈ extremeTable.entries) ∧
      ((-2147483649 : Int) < -2147483648 ∧ (2147483647 : Int) < 2147483648) ∧ (16, "SINGLE") ∈ postypeEntries :=
  ⟨⟨.head _, .tail _ (.head _)⟩, by decide, .head _⟩

theorem witness_decodeOfEncode :
    (Instr.hlenAccept 10).wellFormed = true ∧ rowCondition tableConds (.hlenAccept 10) = true ∧
      encode (.hlenAccept 10) = some (.response 0x040A) := by decide

theorem witness_encodeOfDecode : decode tableConds (.response 0x0409) = .ok (.hlenReject 9) := by rfl

theorem witness_reserved : (3 : BitVec 2) = 3 ∧ 9 ≤ (9 : BitVec 4).toNat ∧ 9 ≤ (15 : BitVec 4).toNat := by decide

/-- A candidate of one byte meets the invariant. -/
theorem witness_inv_sync2 : (scanning .wantSync2 [0xAA] 0 0).Inv :=
  ⟨by decide, ⟨⟨rfl, rfl, rfl⟩, rfl, rfl, rfl, rfl⟩, fun _ => rfl, fun _ => rfl, nofun, fun h => absurd rfl h, rfl⟩

theorem witness_oneRow :
    (scanning .wantSync2 [0xAA] 0 0).Inv ∧ isReading (scanning .wantSync2 [0xAA] 0 0).st = true :=
  ⟨witness_inv_sync2, rfl⟩

theorem witness_stepRuns :
    let s : State := { scanning .wantSync2 [0xAA] 0 0 with stream := [.data 0x44] }
    s.host = [] ∧ isReading s.st = true ∧ s.stream = .data 0x44 :: [] ∧
      decode s.conds (.response (selectorOf (.data 0x44) s.st)) = .ok .sync2Match := ⟨rfl, rfl, rfl, rfl⟩

theorem witness_stepRuns_decode :
    let s : State := { otherFrame with host := [.pass] }
    s.host = .pass :: [] ∧ s.st = .decode := by decide

theorem witness_ctrlWrite : { State.reset with host := [.write (.reg 0) 0xFD] }.host = .write (.reg 0) 0xFD :: [] := by
  decide

theorem witness_holds : State.reset.host = [] ∧ State.reset.st = .idle ∧
    (scanning .wantSync1 [] 0 0).host = [] ∧ isReading (scanning .wantSync1 [] 0 0).st = true ∧
    (scanning .wantSync1 [] 0 0).stream = [] := by decide

theorem witness_sync1Skip :
    let s : State := { scanning .wantSync1 [] 0 0 with stream := [.data 0xAB] }
    s.st = .wantSync1 ∧ (0xAB : Byte) ≠ 0xAA ∧ s.host = [] ∧ s.stream = .data 0xAB :: [] := by decide

theorem witness_anchors : (scanning .wantSync1 [] 0 0).st = .wantSync1 ∧ (scanning .wantSync2 [0xAA] 0 0).st = .wantSync2 ∧
    (scanning .wantSync3 [0xAA, 0x44] 0 0).st = .wantSync3 := by decide

theorem witness_reanchor :
    let s : State := { scanning .wantSync2 [0xAA] 0 0 with stream := [.data 0xAA] }
    s.st = .wantSync2 ∧ s.Inv ∧ s.host = [] ∧ s.stream = .data 0xAA :: [] := ⟨rfl, witness_inv_sync2, rfl, rfl⟩

theorem witness_syncMatches :
    let s : State := { scanning .wantSync2 [0xAA] 0 0 with idx := 65789 }
    let t := scanning .wantSync3 [0xAA, 0x44] 0 0
    s.idx.toNat < 65790 ∧ s.st = .wantSync2 ∧ t.idx.toNat < 65790 ∧ t.st = .wantSync3 := by decide

theorem witness_hlenAccept : (scanning .wantHeaderLen preamble 0 0).st = .wantHeaderLen ∧ 10 ≤ (10 : Byte).toNat ∧
    10 ≤ (255 : Byte).toNat ∧ (scanning .wantHeaderLen preamble 0 0).idx.toNat < 65790 := by decide

theorem witness_hdrByte :
    let s := scanning .headerRest (smallest.take 8) 10 0
    s.st = .headerRest ∧ s.idx.toNat + 1 < s.hlen.toNat := by decide

theorem witness_bodyByte :
    let s : State := { scanning .body [] 255 65535 with idx := 65788 }
    s.st = .body ∧ s.idx.toNat + 1 < s.hlen.toNat + s.blen.toNat := by decide

theorem witness_bodyLast :
    let s : State := { scanning .body [] 255 65535 with idx := 65789 }
    s.st = .body ∧ s.idx.toNat + 1 = s.hlen.toNat + s.blen.toNat := by decide

theorem witness_hdrLast :
    let s := scanning .headerRest (smallest.take 9) 10 0
    s.st = .headerRest ∧ 10 ≤ s.hlen.toNat ∧ s.idx.toNat + 1 = s.hlen.toNat ∧
      ∀ a, a < s.idx.toNat → ∃ v, s.buf.byte? a = some v :=
  ⟨rfl, by decide, by decide, fun a h => Option.isSome_iff_exists.1
    ((by decide : ∀ a < 9, ((bufOf (smallest.take 9)).byte? a).isSome = true) a h)⟩

theorem witness_trlByte : { scanning .trailer smallest 10 0 with tcnt := 2 }.st = .trailer ∧
    { scanning .trailer smallest 10 0 with tcnt := 2 }.tcnt.toNat < 3 := by decide

theorem witness_trlAccept :
    let s : State := { scanning .trailer smallest 10 0 with trl := 0x00EAA10B, tcnt := 3 }
    s.st = .trailer ∧ s.tcnt.toNat = 3 ∧ s.trl ||| ((0xA7 : Byte).setWidth 32 <<< 24) = s.acc := by decide

/-- The smallest frame with three trailer bytes read, the fourth one coming. -/
def lastByteComing : State :=
  { scanning .trailer smallest 10 0 with trl := 0x00EAA10B, tcnt := 3, stream := [.data 0xA7] }

theorem witness_inv_trailer : lastByteComing.Inv :=
  ⟨by decide, ⟨smallest, ⟨by decide, rfl, rfl⟩, ⟨by decide, rfl⟩, rfl, rfl, by decide, by decide⟩, fun _ => rfl,
    fun _ => rfl, nofun, fun h => absurd rfl h, rfl⟩

theorem witness_entryToDecode :
    lastByteComing.Inv ∧ nextIs (step lastByteComing) (fun t => t.st == .decode) = true ∧ lastByteComing.st ≠ .decode :=
  ⟨witness_inv_trailer, by decide, by decide⟩

theorem witness_rejections :
    let s : State := { scanning .trailer smallest 10 0 with trl := 0x00EAA10A, tcnt := 3 }
    (scanning .wantSync2 [0xAA] 0 0).st = .wantSync2 ∧ (0x45 : Byte) ≠ 0x44 ∧ (0x45 : Byte) ≠ 0xAA ∧
      (scanning .wantSync3 [0xAA, 0x44] 0 0).st = .wantSync3 ∧ (0x44 : Byte) ≠ 0x12 ∧ (0x44 : Byte) ≠ 0xAA ∧
      (scanning .wantHeaderLen preamble 0 0).st = .wantHeaderLen ∧ (9 : Byte).toNat < 10 ∧
      s.st = .trailer ∧ s.tcnt.toNat = 3 ∧ s.trl ||| ((0xA7 : Byte).setWidth 32 <<< 24) ≠ s.acc := by decide

theorem witness_endOfScan : isReading (scanning .trailer smallest 10 0).st = true ∧
    (scanning .trailer smallest 10 0).tmoEn = true := by decide

theorem witness_debugMode :
    let s : State := { scanning .wantSync1 [] 0 0 with tmoEn := false }
    isReading s.st = true ∧ exec .rxTimeout s = .refused .timeoutInadmissible := ⟨rfl, rfl⟩

theorem witness_start : State.reset.st = .idle ∧ otherFrame.st ≠ .idle := by decide

theorem witness_decOther : otherFrame.st = .decode ∧ frameIs otherFrame (bytesOf (header 0x34 0x12 0x00 0x00)) ∧
    6 ≤ otherFrame.frameLen.toNat ∧ word16 (bytesOf (header 0x34 0x12 0x00 0x00)) 4 ≠ otherFrame.cfg.msgidPosition ∧
    word16 (bytesOf (header 0x34 0x12 0x00 0x00)) 4 ≠ otherFrame.cfg.msgidVersion := by
  unfold frameIs; decide

/-- A body of 71 bytes, one short. -/
theorem witness_decIntegrity_position :
    let bs := header 0x2A 0x00 0x47 0x00 ++ posBody.take 71
    let s := deciding bs 10 71
    s.st = .decode ∧ frameIs s (bytesOf bs) ∧ frameLengths s ∧ 10 ≤ s.hlen.toNat ∧
      word16 (bytesOf bs) 4 = s.cfg.msgidPosition ∧ s.blen.toNat < 72 := by
  unfold frameIs frameLengths; decide

/-- A body of 111 bytes for one component, one short. -/
theorem witness_decIntegrity_version :
    let bs := header 0x25 0x00 0x6F 0x00 ++ [0x01, 0x00, 0x00, 0x00] ++ List.replicate 107 0x00
    let s := deciding bs 10 111
    s.st = .decode ∧ frameIs s (bytesOf bs) ∧ frameLengths s ∧ 10 ≤ s.hlen.toNat ∧
      word16 (bytesOf bs) 4 = s.cfg.msgidVersion ∧
      ¬versionFits s.blen.toNat (word32 (bytesOf bs) s.hlen.toNat).toInt := by
  unfold frameIs frameLengths versionFits; decide

theorem witness_decPos : posFrame.st = .decode ∧ frameIs posFrame (bytesOf (header 0x2A 0x00 0x48 0x00 ++ posBody)) ∧
    frameLengths posFrame ∧
    word16 (bytesOf (header 0x2A 0x00 0x48 0x00 ++ posBody)) 4 = posFrame.cfg.msgidPosition ∧
    72 ≤ posFrame.blen.toNat := by
  unfold frameIs frameLengths; decide

theorem witness_decPos_flags : ∃ t, exec .decPos posFrame = .next t := ⟨_, rfl⟩

set_option maxRecDepth 4000 in
/-- A body of exactly 112 bytes for one component. -/
theorem witness_decVer :
    let bs := header 0x25 0x00 0x70 0x00 ++ [0x01, 0x00, 0x00, 0x00] ++ List.replicate 108 0x00
    verOneFrame.st = .decode ∧ frameIs verOneFrame (bytesOf bs) ∧ frameLengths verOneFrame ∧
      10 ≤ verOneFrame.hlen.toNat ∧ word16 (bytesOf bs) 4 = verOneFrame.cfg.msgidVersion ∧
      versionFits verOneFrame.blen.toNat (word32 (bytesOf bs) verOneFrame.hlen.toNat).toInt := by
  unfold frameIs frameLengths versionFits; decide

theorem witness_decVer_negative :
    let bs := header 0x25 0x00 0x04 0x00 ++ [0xFF, 0xFF, 0xFF, 0xFF]
    verFrame.st = .decode ∧ frameIs verFrame (bytesOf bs) ∧ frameLengths verFrame ∧ 10 ≤ verFrame.hlen.toNat ∧
      word16 (bytesOf bs) 4 = verFrame.cfg.msgidVersion ∧
      versionFits verFrame.blen.toNat (word32 (bytesOf bs) verFrame.hlen.toNat).toInt := by
  unfold frameIs frameLengths versionFits; decide

theorem witness_accepted : otherFrame.st = .decode ∧ otherFrame.accepted :=
  ⟨rfl, header 0x34 0x12 0x00 0x00, ⟨by decide, rfl, rfl⟩, ⟨by decide, rfl⟩, rfl, rfl, rfl, rfl, rfl⟩

theorem witness_status : { otherFrame with host := [.read (.reg 1)] }.host = .read (.reg 1) :: [] := by decide

theorem witness_frameRegisters :
    let s : State := { otherFrame with host := [.read (.reg 5)] }
    s.host = .read (.reg 5) :: [] ∧ frameIs s (bytesOf (header 0x34 0x12 0x00 0x00)) ∧ 6 ≤ s.frameLen.toNat ∧
      2 ≤ (5 : BitVec 8).toNat ∧ (5 : BitVec 8).toNat ≤ 5 := by
  unfold frameIs; decide

theorem witness_frameRegisters_no_frame :
    let s : State := { State.reset with host := [.read (.reg 2)] }
    s.host = .read (.reg 2) :: [] ∧ frameIs s (bytesOf []) ∧ s.frameLen = 0 ∧ 2 ≤ (2 : BitVec 8).toNat ∧
      (2 : BitVec 8).toNat ≤ 5 := by
  unfold frameIs; decide

theorem witness_frameWindow :
    let s : State := { otherFrame with host := [.read (.frame 9)] }
    s.host = .read (.frame 9) :: [] ∧ frameIs s (bytesOf (header 0x34 0x12 0x00 0x00)) ∧
      (9 : Index).toNat < s.frameLen.toNat := by
  unfold frameIs; decide

theorem witness_frameWindow_outside :
    let s : State := { otherFrame with host := [.read (.frame 10)] }
    s.host = .read (.frame 10) :: [] ∧ frameIs s (bytesOf (header 0x34 0x12 0x00 0x00)) ∧
      s.frameLen.toNat ≤ (10 : Index).toNat := by
  unfold frameIs; decide

theorem witness_accesses :
    { State.reset with host := [.read (.reg 0)] }.host = .read (.reg 0) :: [] ∧
      { State.reset with host := [.read .record] }.host = .read .record :: [] ∧ 6 ≤ (6 : BitVec 8).toNat ∧
      6 ≤ (0xFF : BitVec 8).toNat ∧ Target.reg 1 ≠ .reg 0 ∧ Target.record ≠ .reg 0 ∧
      { State.reset with host := [.write (.reg 1) 0xFF] }.host = .write (.reg 1) 0xFF :: [] := by decide

theorem witness_reset : { otherFrame with host := [.reset] }.host = .reset :: [] := by decide

/-- The invariant holds in the state of an accepted frame. -/
theorem witness_inv_decode : otherFrame.Inv :=
  ⟨by decide, nofun, fun _ => rfl, nofun, nofun, fun _ => witness_accepted.2, rfl⟩

theorem witness_keeps_invariant : otherFrame.Inv ∧ ∃ t, step otherFrame = .next t := ⟨witness_inv_decode, _, rfl⟩

theorem witness_stops :
    let s : State := { scanning .wantSync2 [0xAA] 0 0 with tmoEn := false, stream := [.timeout] }
    s.Inv ∧ step s = .refused .timeoutInadmissible := ⟨witness_inv_sync2, rfl⟩

theorem witness_sticky_start :
    let s : State := { otherFrame with host := [.write (.reg 0) 0x01] }
    (∃ t, step s = .next t) ∧ ¬asserts s ∧ s.st ≠ .idle ∧ writesCtrl s 0x01 :=
  ⟨⟨_, rfl⟩, nofun, nofun, rfl⟩

theorem witness_sticky_frame :
    let s : State := { otherFrame with host := [.read (.frame 10)] }
    (∃ t, step s = .next t) ∧ ¬asserts s ∧ s.frameLen.toNat ≤ (10 : Index).toNat :=
  ⟨⟨_, rfl⟩, nofun, by decide⟩

theorem witness_not_good : ¬{ otherFrame with fault := ⟨true, false⟩ }.fault.empty := fun h => nomatch h.1

theorem witness_parameters : ∃ t, step { otherFrame with host := [.reset] } = .next t := ⟨_, rfl⟩

theorem witness_immutable :
    let s : State := { otherFrame with host := [.write (.reg 0) 0x01] }
    (s.st = .decode ∨ s.st = .idle) ∧ s.frameLen ≠ 0 ∧ (∃ t, step s = .next t) ∧ ¬asserts s ∧
      ∀ w, writesCtrl s w → s.st = .idle → w.getLsbD 0 = false :=
  ⟨.inl rfl, nofun, ⟨_, rfl⟩, nofun, fun _ _ h => nomatch h⟩

theorem witness_latched :
    (∃ t, step { State.reset with host := [.write (.reg 0) 0x01] } = .next t) ∧
      writesCtrl { State.reset with host := [.write (.reg 0) 0x01] } 0x01 ∧
      (∃ t, step { State.reset with host := [.reset] } = .next t) ∧ asserts { State.reset with host := [.reset] } ∧
      (∃ t, step State.reset = .next t) ∧ (∀ w, ¬writesCtrl State.reset w) ∧ ¬asserts State.reset :=
  ⟨⟨_, rfl⟩, rfl, ⟨_, rfl⟩, rfl, ⟨_, rfl⟩, nofun, nofun⟩

theorem witness_answers : ∃ t, step { scanning .wantSync1 [] 0 0 with stream := [.data 0x13] } = .next t := ⟨_, rfl⟩

theorem witness_scanEnds :
    nextIs (step otherFrame) (fun t => t.st == .idle) = true ∧ otherFrame.st ≠ .idle ∧
      nextIs (step { scanning .body smallest 10 2 with stream := [.timeout] }) (fun t => t.st == .idle) = true ∧
      nextIs (step { scanning .body smallest 10 2 with stream := [.error] }) (fun t => t.st == .idle) = true ∧
      nextIs (step { scanning .body smallest 10 2 with host := [.reset] }) (fun t => t.st == .idle) = true := by decide

theorem witness_preamble :
    let s : State := { scanning .wantSync1 [] 0 0 with
      stream := ([0x13, 0xAA, 0x44] ++ [0xAA, 0x44, 0x12]).map .data ++ [.data 0x0A] }
    s.st = .wantSync1 ∧ s.host = [] ∧ ¬[0xAA, 0x44, 0x12] <:+: ([0x13, 0xAA, 0x44] : List Byte) ∧
      s.stream = ([0x13, 0xAA, 0x44] ++ [0xAA, 0x44, 0x12]).map .data ++ [.data 0x0A] := ⟨rfl, rfl, by decide, rfl⟩

/-- Noise that ends like a preamble, then the smallest frame and its checksum. -/
theorem witness_noise :
    let s : State := { scanning .wantSync1 [] 0 0 with
      stream := ([0x13, 0xAA, 0x44] ++ smallest ++ le32bytes (crc32 smallest)).map .data ++ [.error] }
    s.st = .wantSync1 ∧ s.host = [] ∧ ¬[0xAA, 0x44, 0x12] <:+: ([0x13, 0xAA, 0x44] : List Byte) ∧ isRawFrame smallest ∧
      s.stream = ([0x13, 0xAA, 0x44] ++ smallest ++ le32bytes (crc32 smallest)).map .data ++ [.error] :=
  ⟨rfl, rfl, by decide, ⟨0x0A, 0x00, 0x00, by decide⟩, rfl⟩

theorem witness_corrupted :
    let s : State := { scanning .wantSync1 [] 0 0 with stream := (smallest ++ le32bytes 0xA7EAA10A).map .data ++ [] }
    s.st = .wantSync1 ∧ s.host = [] ∧ isRawFrame smallest ∧ (0xA7EAA10A : Word) ≠ crc32 smallest ∧
      s.stream = (smallest ++ le32bytes 0xA7EAA10A).map .data ++ [] :=
  ⟨rfl, rfl, ⟨0x0A, 0x00, 0x00, by decide⟩, by decide, rfl⟩

end Sys2Proof.Tests
end

/-! SUPPORT. The proofs of the statements of spec/10_state.md: the host register interface, the registers that only a
host turn changes, and the invariant of a run. -/

namespace Sys2Proof.Machine

open Sys2Proof.Certificates

/-! ### One turn of the host -/

theorem step_read {s : State} {turns : List HostTurn} {target : Target} (h : s.host = .read target :: turns) :
    step s = hostRead (s.setHost turns) target := by
  simp [step, fetch, hostFetch, runFetched, h]

theorem step_ignored_write {s : State} {turns : List HostTurn} {target : Target} {w : Byte}
    (h : s.host = .write target w :: turns) (ht : target ≠ .reg 0) : step s = .next (s.setHost turns) := by
  have hc : isCtrl target = false := by simpa [isCtrl] using ht
  simp [step, fetch, hostFetch, runFetched, h, hc]

theorem step_reset {s : State} {turns : List HostTurn} (h : s.host = .reset :: turns) :
    step s = .next (s.setHost turns).resetCore := by
  simp [step, fetch, hostFetch, runFetched, h]

theorem step_read_reg {s : State} {turns : List HostTurn} {n : BitVec 8} {v : Word}
    (h : s.host = .read (.reg n) :: turns) (hv : (s.setHost turns).regValue n = some v) :
    step s = .next { s with host := turns, reply := .word v } := by
  rw [step_read h, hostRead, hostReadReg, hv]
  rfl

/-- Everything a CTRL write can do (R120, R35, R143). -/
theorem exec_decodeCtrl_next {s t : State} {w : Byte} (h : exec (decodeCtrl w) s = .next t) :
    (w.getLsbD 0 = true ∧ s.st = .idle ∧ t = (s.setCtrlTmoEn (w.getLsbD 1)).startScan (w.getLsbD 1)) ∨
    (w.getLsbD 0 = true ∧ s.st ≠ .idle ∧ t = (s.setCtrlTmoEn (w.getLsbD 1)).recordStartWhileBusy) ∨
    (w.getLsbD 0 = false ∧ t = s.setCtrlTmoEn (w.getLsbD 1)) := by
  unfold decodeCtrl at h
  split at h
  · simp only [exec, execCtrlStart] at h
    split at h <;> cases h
    · exact .inl ⟨‹_›, ‹_›, rfl⟩
    · exact .inr (.inl ⟨‹_›, ‹_›, rfl⟩)
  · cases h
    exact .inr (.inr ⟨Bool.eq_false_iff.2 ‹_›, rfl⟩)

/-- Everything a host read can do (R34 to R41): it gives a reply, and records a fault exactly for a frame byte out of
range. -/
theorem hostRead_next {s t : State} {target : Target} (h : hostRead s target = .next t) :
    (∃ i : Index, target = .frame i ∧ s.frameLen.toNat ≤ i.toNat ∧
      t = s.recordFrameReadOutOfRange.setReply .nothing) ∨
    ((∀ i : Index, target = .frame i → i.toNat < s.frameLen.toNat) ∧ ∃ r, t = s.setReply r) := by
  cases target with
  | reg n =>
    obtain ⟨v, -, h⟩ := withValue_next h
    cases h
    exact .inr ⟨nofun, _, rfl⟩
  | record =>
    cases h
    exact .inr ⟨nofun, _, rfl⟩
  | frame i =>
    simp only [hostRead, hostReadFrame] at h
    split at h
    · obtain ⟨b, -, h⟩ := withValue_next h
      cases h
      exact .inr ⟨fun j hj => by cases hj; assumption, _, rfl⟩
    · cases h
      exact .inl ⟨i, rfl, by omega, rfl⟩

/-! ### What a read of each register gives -/

theorem codeOfRes_toNat (r : ResCode) : (codeOfRes r).toNat = resNumber r := by cases r <;> rfl

theorem codeOfState_toNat (st : ScanState) : (codeOfState st).toNat = stateNumber st := by cases st <;> rfl

theorem toNat_append_eq_add {m n : Nat} (x : BitVec m) (y : BitVec n) :
    (x ++ y).toNat = x.toNat * 2 ^ n + y.toNat := by
  rw [BitVec.toNat_append, ← Nat.shiftLeft_add_eq_or_of_lt y.isLt, Nat.shiftLeft_eq]

/-- STATUS as a number: RES, BUSY and ST in their bit positions (R36). -/
theorem State.statusReg_toNat (s : State) :
    s.statusReg.toNat = resNumber s.res + 8 * (if s.st = .idle then 0 else 1) + 16 * stateNumber s.st := by
  have hbusy : (BitVec.ofBool (s.st != .idle)).toNat = if s.st = .idle then 0 else 1 := by
    by_cases h : s.st = .idle <;> simp [h]
  rw [State.statusReg, toNat_append_eq_add, toNat_append_eq_add, codeOfRes_toNat, codeOfState_toNat, hbusy]
  omega

theorem State.ctrlReg_eq (s : State) : s.ctrlReg = if s.ctrlTmoEn then 2 else 0 := by
  rw [State.ctrlReg]
  cases s.ctrlTmoEn <;> rfl

theorem State.regValue_ctrl (s : State) : s.regValue 0 = some (if s.ctrlTmoEn then 2 else 0) := by
  change some (s.ctrlReg.setWidth 32) = _
  rw [State.ctrlReg_eq]
  cases s.ctrlTmoEn <;> rfl

theorem State.hdrLenReg_toNat (s : State) : s.hdrLenReg.toNat = if s.frameLen = 0 then 0 else s.hlen.toNat := by
  unfold State.hdrLenReg
  split <;> rfl

theorem State.bodyLenReg_toNat (s : State) : s.bodyLenReg.toNat = if s.frameLen = 0 then 0 else s.blen.toNat := by
  unfold State.bodyLenReg
  split <;> rfl

/-- The numbers `0x06` to `0xFF` read 0 (R34). -/
theorem State.regValue_reserved (s : State) {n : BitVec 8} (h : 6 ≤ n.toNat) : s.regValue n = some 0 := by
  obtain ⟨k, hk⟩ := Nat.exists_eq_add_of_le' h
  simp only [State.regValue, hk]

theorem assemble_two (lo hi : Byte) : assemble 16 [lo, hi] = hi ++ lo := by
  refine BitVec.eq_of_getLsbD_eq fun i hi16 => ?_
  rw [BitVec.getLsbD_append]
  by_cases h : i < 8
  · simp [assemble, h, hi16]
  · simp [assemble, h, hi16, BitVec.getLsbD_of_ge lo i (by omega)]

/-- The message type of a readable frame is its bytes 4 and 5 (R74). -/
theorem messageType_of_frameIs {s : State} {f : Nat → Byte} (hf : frameIs s f) (h6 : 6 ≤ s.frameLen.toNat) :
    s.messageType = some (word16 f 4) := by
  have h4 : s.buf.byte? 4 = some (f 4) := hf 4 (by omega)
  have h5 : s.buf.byte? 5 = some (f 5) := hf 5 (by omega)
  simp [State.messageType, Memory.le16, Memory.read_succ, Memory.read_zero, h4, h5, assemble_two, word16]

/-- MSG_TYPE reads 0 without a frame, else the type in the frame's header (R38). -/
theorem msgTypeReg_of_frameIs {s : State} {f : Nat → Byte} (hf : frameIs s f)
    (hlen : s.frameLen = 0 ∨ 6 ≤ s.frameLen.toNat) :
    s.msgTypeReg = some (if s.frameLen = 0 then 0 else word16 f 4) := by
  unfold State.msgTypeReg
  split
  · rfl
  · exact messageType_of_frameIs hf (hlen.resolve_left ‹_›)

theorem hostReadFrame_of_lt {s : State} {i : Index} {b : Byte} (hi : i.toNat < s.frameLen.toNat)
    (hb : s.buf.byte? i.toNat = some b) : hostReadFrame s i = .next (s.setReply (.word (b.setWidth 32))) := by
  rw [hostReadFrame, if_pos hi, hb, withValue_some]

theorem hostReadFrame_of_le {s : State} {i : Index} (hi : s.frameLen.toNat ≤ i.toNat) :
    hostReadFrame s i = .next (s.recordFrameReadOutOfRange.setReply .nothing) :=
  if_neg (Nat.not_lt.2 hi)

/-! ### The statements about host reads and writes -/

/-- Settles O39: STATUS as a number, zero-extended. -/
theorem statusReadsResultBusyAndState : Obligations.StatusReadsResultBusyAndState := by
  intro s turns h
  refine ⟨s.statusReg.setWidth 32, step_read_reg h rfl, ?_⟩
  rw [BitVec.toNat_setWidth_of_le (by decide), State.statusReg_toNat]

/-- Settles O40: one case per register. -/
theorem frameRegistersReadTheAcceptedFrame : Obligations.FrameRegistersReadTheAcceptedFrame := by
  intro s turns n f h hf hlen h2 h5
  have hn : n = 2 ∨ n = 3 ∨ n = 4 ∨ n = 5 := by bv_omega
  rcases hn with rfl | rfl | rfl | rfl
  · exact ⟨s.frameLen.setWidth 32, step_read_reg h rfl, BitVec.toNat_setWidth_of_le (by decide)⟩
  · refine ⟨s.hdrLenReg.setWidth 32, step_read_reg h rfl, ?_⟩
    rw [BitVec.toNat_setWidth_of_le (by decide), State.hdrLenReg_toNat]
    rfl
  · refine ⟨s.bodyLenReg.setWidth 32, step_read_reg h rfl, ?_⟩
    rw [BitVec.toNat_setWidth_of_le (by decide), State.bodyLenReg_toNat]
    rfl
  · have hmt := msgTypeReg_of_frameIs hf hlen
    have hv : s.regValue 5 = some ((if s.frameLen = 0 then 0 else word16 f 4).setWidth 32) := by
      change s.msgTypeReg.map (·.setWidth 32) = _
      rw [hmt, Option.map_some]
    refine ⟨_, step_read_reg h hv, ?_⟩
    rw [BitVec.toNat_setWidth_of_le (by decide)]
    exact apply_ite BitVec.toNat _ _ _

/-- Settles O41: the two sides of `frame_len`. -/
theorem frameWindowReads : Obligations.FrameWindowReads := by
  intro s turns i f h hf
  rw [step_read h]
  exact ⟨fun hi => hostReadFrame_of_lt hi (hf _ hi), fun hi => hostReadFrame_of_le hi⟩

/-- Settles O42: one clause per kind of access. -/
theorem ctrlRecordAndReservedAccesses : Obligations.CtrlRecordAndReservedAccesses := by
  refine fun s turns => ⟨fun h => ?_, fun h => ?_, fun n hn h => ?_, fun t w ht h => ?_⟩
  · exact step_read_reg h (State.regValue_ctrl _)
  · exact step_read h
  · exact step_read_reg h (State.regValue_reserved _ hn)
  · exact step_ignored_write h ht

/-! ### The registers that only a host turn changes -/

/-- The parameters, the two timeout enables and the recorded faults are as they were. -/
structure SameSettings (s t : State) : Prop where
  cfg : t.cfg = s.cfg := by rfl
  tmoEn : t.tmoEn = s.tmoEn := by rfl
  ctrlTmoEn : t.ctrlTmoEn = s.ctrlTmoEn := by rfl
  fault : t.fault = s.fault := by rfl

/-- No move of the core changes a setting. -/
theorem coreFetch_sameSettings {s t : State} (h : runFetched (coreFetch s) = .next t) : SameSettings s t := by
  rcases coreFetch_next h with ⟨-, h⟩ | ⟨-, -, rfl⟩ | ⟨-, rest, ⟨-, -, rfl⟩ | ⟨-, rfl⟩ | ⟨b, i, -, hd, h⟩⟩
  · obtain ⟨-, r, o, rfl, -⟩ := execDecStep_next h
    exact {}
  · exact {}
  · exact {}
  · exact {}
  · have hcases := exec_decodeData_next (s := s.setStream rest) rfl hd h
    rcases hcases with ⟨-, -, rfl⟩ | ⟨-, -, -, rfl⟩ | ⟨-, -, rfl⟩ | ⟨-, hstore⟩ | ⟨-, -, rfl⟩ | ⟨-, -, -, rfl⟩
    on_goal 4 =>
      rcases hstore with ⟨-, -, rfl⟩ | ⟨-, -, rfl⟩ | ⟨-, -, rfl⟩ | ⟨-, -, rfl⟩ | ⟨-, -, _, -, rfl⟩ | ⟨-, -, rfl⟩ |
        ⟨-, -, rfl⟩
    all_goals exact {}

/-- The host's turn is none of those that change a setting: no reset, no CTRL write, no frame read out of range. -/
def State.quietTurn (s : State) : Prop :=
  ¬asserts s ∧ (∀ w, ¬writesCtrl s w) ∧
    ∀ i : Index, s.host.head? = some (.read (.frame i)) → i.toNat < s.frameLen.toNat

/-- What a step does to the settings, by the host's turn: reset sets them, a CTRL write and a frame read out of range
change them, and every other step leaves them (R31, R32, R35, R39). -/
theorem step_settings {s t : State} (h : step s = .next t) :
    (asserts s ∧ t.cfg = s.cfg ∧ t.tmoEn = true ∧ t.ctrlTmoEn = true) ∨
    (∃ w, writesCtrl s w ∧ t.cfg = s.cfg ∧ t.ctrlTmoEn = w.getLsbD 1 ∧
      t.tmoEn = (if s.st = .idle ∧ w.getLsbD 0 = true then w.getLsbD 1 else s.tmoEn) ∧
      t.fault = if s.st ≠ .idle ∧ w.getLsbD 0 = true then { s.fault with startWhileBusy := true } else s.fault) ∨
    (∃ i : Index, s.host.head? = some (.read (.frame i)) ∧ s.frameLen.toNat ≤ i.toNat ∧
      t.cfg = s.cfg ∧ t.tmoEn = s.tmoEn ∧ t.ctrlTmoEn = s.ctrlTmoEn ∧
      t.fault = { s.fault with frameReadOutOfRange := true }) ∨
    (s.quietTurn ∧ SameSettings s t) := by
  rcases step_next h with ⟨turns, hh, h⟩ | ⟨turns, w, hh, h⟩ | ⟨turns, target, w, hh, ht, rfl⟩ |
    ⟨turns, target, hh, h⟩ | ⟨turns, hh, rfl⟩
  · have hs := coreFetch_sameSettings h
    refine .inr (.inr (.inr ⟨?_, hs.cfg, hs.tmoEn, hs.ctrlTmoEn, hs.fault⟩))
    rcases hh with hh | ⟨hh, -⟩ <;> simp [State.quietTurn, asserts, writesCtrl, hh]
  · refine .inr (.inl ⟨w, by simp [writesCtrl, hh], ?_⟩)
    rcases exec_decodeCtrl_next h with ⟨h0, hi, rfl⟩ | ⟨h0, hi, rfl⟩ | ⟨h0, rfl⟩
    · exact ⟨rfl, rfl, (if_pos ⟨hi, h0⟩).symm, (if_neg fun hc => hc.1 hi).symm⟩
    · exact ⟨rfl, rfl, (if_neg fun hc => hi hc.1).symm, (if_pos ⟨hi, h0⟩).symm⟩
    · have h0' := ne_true_of_eq_false h0
      exact ⟨rfl, rfl, (if_neg fun hc => h0' hc.2).symm, (if_neg fun hc => h0' hc.2).symm⟩
  · exact .inr (.inr (.inr ⟨by simpa [State.quietTurn, asserts, writesCtrl, hh] using ht, {}⟩))
  · rcases hostRead_next h with ⟨i, rfl, hi, rfl⟩ | ⟨hi, r, rfl⟩
    · exact .inr (.inr (.inl ⟨i, by simp [hh], hi, rfl, rfl, rfl, rfl⟩))
    · refine .inr (.inr (.inr ⟨?_, {}⟩))
      simpa [State.quietTurn, asserts, writesCtrl, hh] using hi
  · exact .inl ⟨by simp [asserts, hh], rfl, rfl, rfl⟩

/-- A host's next turn writes at most one value to CTRL. -/
theorem writesCtrl_unique {s : State} {v w : Byte} (hv : writesCtrl s v) (hw : writesCtrl s w) : w = v := by
  cases hv.symm.trans hw
  rfl

theorem not_asserts_of_writesCtrl {s : State} {w : Byte} (hw : writesCtrl s w) : ¬asserts s := fun ha => by
  cases ha.symm.trans hw

/-- Settles O50: in no kind of step are the parameters among the settings that change. -/
theorem parametersNeverChange : Obligations.ParametersNeverChange := by
  intro s t h
  rcases step_settings h with ⟨-, hc, -⟩ | ⟨w, -, hc, -⟩ | ⟨i, -, -, hc, -⟩ | ⟨-, hs⟩
  · exact hc
  · exact hc
  · exact hc
  · exact hs.cfg

/-- Settles O52: only a CTRL write and reset are turns that change a timeout enable. -/
theorem timeoutEnableIsLatchedByStart : Obligations.TimeoutEnableIsLatchedByStart := by
  intro s t h
  rcases step_settings h with ⟨ha, -, ht, hct⟩ | ⟨w, hw, -, hct, ht, -⟩ | ⟨i, hi, -, -, ht, hct, -⟩ | ⟨⟨hna, hnw, -⟩, hs⟩
  · exact ⟨fun w hw => absurd ha (not_asserts_of_writesCtrl hw), fun _ hn => absurd ha hn, fun _ => ⟨hct, ht⟩⟩
  · refine ⟨fun v hv => ?_, fun hn => absurd hw (hn w), fun ha => absurd ha (not_asserts_of_writesCtrl hw)⟩
    cases writesCtrl_unique hw hv
    exact ⟨hct, ht⟩
  · refine ⟨fun w hw => ?_, fun _ _ => ⟨hct, ht⟩, fun ha => ?_⟩
    · cases hi.symm.trans hw
    · cases hi.symm.trans ha
  · exact ⟨fun w hw => absurd hw (hnw w), fun _ _ => ⟨hs.ctrlTmoEn, hs.tmoEn⟩, fun ha => absurd ha hna⟩

/-- Settles O49: each reason is read off what the step does to the settings. -/
theorem faultReasonsAreSticky : Obligations.FaultReasonsAreSticky := by
  refine ⟨⟨rfl, rfl⟩, fun s hf hg => hf hg.2, fun s t h hna => ?_⟩
  rcases step_settings h with ⟨ha, -⟩ | ⟨w, hw, -, -, -, hf⟩ | ⟨i, hi, hle, -, -, -, hf⟩ | ⟨⟨-, hnw, hlt⟩, hs⟩
  · exact absurd ha hna
  · have hread : ∀ i : Index, s.host.head? ≠ some (.read (.frame i)) := fun i hi => by cases hi.symm.trans hw
    have hstart : (∃ v, writesCtrl s v ∧ v.getLsbD 0 = true) ↔ w.getLsbD 0 = true :=
      ⟨fun ⟨v, hv, h0⟩ => writesCtrl_unique hw hv ▸ h0, fun h0 => ⟨w, hw, h0⟩⟩
    rw [hf, hstart]
    split
    case isTrue hc => exact ⟨⟨fun _ => .inr hc, fun _ => rfl⟩, by simp [hread]⟩
    case isFalse hc => exact ⟨⟨.inl, fun h => h.resolve_right hc⟩, by simp [hread]⟩
  · have hnw : ∀ w, ¬writesCtrl s w := fun w hw => by cases hi.symm.trans hw
    have hread : ∃ j : Index, s.host.head? = some (.read (.frame j)) ∧ s.frameLen.toNat ≤ j.toNat := ⟨i, hi, hle⟩
    simp [hf, hnw, hread]
  · have hread : ¬∃ j : Index, s.host.head? = some (.read (.frame j)) ∧ s.frameLen.toNat ≤ j.toNat :=
      fun ⟨j, hj, hle⟩ => absurd (hlt j hj) (Nat.not_lt.2 hle)
    simp [hs.fault, hnw, hread]

/-! ### Reset -/

/-- Settles O43: the step is the reset action, whose fields are those of the reset state. -/
theorem resetActionGivesTheResetState : Obligations.ResetActionGivesTheResetState := by
  intro s turns h
  refine ⟨_, step_reset h, ?_⟩
  simp [FaultSet.empty, State.reset, Memory.byte?]

theorem regValue_reset (n : BitVec 8) : State.reset.regValue n = some (if n = 0 then 2 else 0) := by
  by_cases h : 6 ≤ n.toNat
  · have h0 : n ≠ 0 := by bv_omega
    rw [if_neg h0, State.regValue_reserved _ h]
  · have hn : n = 0 ∨ n = 1 ∨ n = 2 ∨ n = 3 ∨ n = 4 ∨ n = 5 := by bv_omega
    rcases hn with rfl | rfl | rfl | rfl | rfl | rfl <;> rfl

/-- Settles O44: a register read by its value at reset, a frame read by `frame_len = 0`. -/
theorem readsAfterReset : Obligations.ReadsAfterReset := by
  refine ⟨fun n => ?_, fun i => ?_⟩
  · exact step_read_reg (s := { State.reset with host := [.read (.reg n)] }) rfl (regValue_reset n)
  · rw [step_read (target := .frame i) rfl]
    exact hostReadFrame_of_le (Nat.zero_le _)

/-! ### The invariant depends on the scanner's and the output registers alone -/

/-- The registers that the invariant speaks of are as they were. -/
structure SameScan (s t : State) : Prop where
  st : t.st = s.st := by rfl
  hlen : t.hlen = s.hlen := by rfl
  blen : t.blen = s.blen := by rfl
  idx : t.idx = s.idx := by rfl
  acc : t.acc = s.acc := by rfl
  trl : t.trl = s.trl := by rfl
  tcnt : t.tcnt = s.tcnt := by rfl
  buf : t.buf = s.buf := by rfl
  res : t.res = s.res := by rfl
  frameLen : t.frameLen = s.frameLen := by rfl
  record : t.record = s.record := by rfl
  cfg : t.cfg = s.cfg := by rfl

theorem State.Inv.of_sameScan {s t : State} (hs : s.Inv) (h : SameScan s t) : t.Inv := by
  have hp := State.positionRecord_congr h.buf h.hlen h.frameLen h.cfg
  have hv := State.versionRecord_congr h.buf h.hlen h.frameLen
  simpa only [State.Inv, State.candidateInv, State.outputInv, State.accepted, State.holds, State.fresh,
    State.headerKnown, State.bodyKnown, State.recordInv, h.st, h.hlen, h.blen, h.idx, h.acc, h.trl, h.tcnt, h.buf,
    h.res, h.frameLen, h.record, hp, hv] using hs

/-! ### The output registers, by scanner state -/

/-- No result, no frame and no record: the outputs while a scan reads bytes. -/
def State.noOutput (s : State) : Prop := s.res = .none ∧ s.frameLen = 0 ∧ s.record = .none

theorem noOutput_of_inv {s : State} (hs : s.Inv) (hr : isReading s.st = true) : s.noOutput := by
  obtain ⟨-, -, hres, hlen, -, -, hrec⟩ := hs
  have hres := hres fun h => by simp [h, isReading] at hr
  simp only [State.recordInv, hres] at hrec
  exact ⟨hres, hlen hr, hrec⟩

/-- While a read is outstanding, the invariant is that of the buffer and the candidate, and empty outputs. -/
theorem inv_of_reading {s : State} (hr : isReading s.st = true) (hw : s.buf.wf) (hc : s.candidateInv)
    (ho : s.noOutput) : s.Inv := by
  obtain ⟨hres, hlen, hrec⟩ := ho
  refine ⟨hw, hc, fun _ => hres, fun _ => hlen, fun h => ?_, fun h => absurd hlen h, ?_⟩
  · simp [h, isReading] at hr
  · simpa only [State.recordInv, hres] using hrec

/-- In IDLE without a frame, the invariant is that of the buffer, a code that leaves no frame, and no record. -/
theorem inv_of_idle_without_frame {s : State} (hst : s.st = .idle) (hw : s.buf.wf) (hlen : s.frameLen = 0)
    (hres : hasFrame s.res = false) (hrec : s.record = .none) : s.Inv := by
  refine ⟨hw, ?_, fun h => absurd hst h, fun _ => hlen, fun _ => ?_, fun h => absurd hlen h, ?_⟩
  · simp only [State.candidateInv, hst]
  · simp [hlen, hres]
  · unfold State.recordInv
    split <;> simp_all [hasFrame]

/-- An accepted frame is not empty: its header has at least ten bytes (R29, R72). -/
theorem State.accepted.frameLen_ne_zero {s : State} (h : s.accepted) : s.frameLen ≠ 0 := by
  obtain ⟨bs, -, ⟨hmin, -⟩, -, hlen, hframe, -⟩ := h
  have h10 : 10 ≤ s.hlen.toNat := hmin
  bv_omega

/-- In DECODE, with an accepted frame and no outcome yet, the invariant is that of the buffer. -/
theorem inv_of_decode {s : State} (hst : s.st = .decode) (hw : s.buf.wf) (ha : s.accepted) (hres : s.res = .none)
    (hrec : s.record = .none) : s.Inv := by
  refine ⟨hw, ?_, fun _ => hres, fun h => ?_, fun h => ?_, fun _ => ha, ?_⟩
  · simpa only [State.candidateInv, hst] using ha.frameLen_ne_zero
  · simp [hst, isReading] at h
  · simp [hst] at h
  · simpa only [State.recordInv, hres] using hrec

/-! ### The candidate -/

theorem State.holds.idx_toNat {s : State} {bs : List Byte} (h : s.holds bs) : s.idx.toNat = bs.length := h.2.1

theorem State.holds_anchor (s : State) (b : Byte) : (s.anchor b).holds [b] := by
  refine ⟨?_, rfl, rfl⟩
  simp [Memory.read_succ, Memory.read_zero]

/-- A stored byte extends the candidate (R24, R25). -/
theorem State.holds_store {s : State} {bs : List Byte} (b : Byte) (h : s.holds bs)
    (hi : s.idx.toNat < Config.frameMax) : (s.store b).holds (bs ++ [b]) := by
  obtain ⟨hread, hidx, hacc⟩ := h
  refine ⟨?_, ?_, ?_⟩
  · rw [State.store_buf, hidx, ← Nat.zero_add bs.length]
    exact Memory.read_write_snoc b hread
  · rw [State.store_idx_toNat b hi, hidx, List.length_append, List.length_singleton]
  · rw [State.store_acc, hacc, crc32_snoc]

/-- Bytes behind the first four do not change the header's head. -/
theorem State.headerKnown_store {s : State} {bs : List Byte} (b : Byte) (h : s.headerKnown bs) (h4 : 4 ≤ bs.length) :
    (s.store b).headerKnown (bs ++ [b]) :=
  ⟨h.1, by rw [List.take_append_of_le_length h4]; exact h.2⟩

/-- A byte stored behind the header does not change the body length's field. -/
theorem State.bodyKnown_store {s : State} (b : Byte) (h : s.bodyKnown) (hi : 10 ≤ s.idx.toNat) :
    (s.store b).bodyKnown := by
  have hread : (s.store b).buf.read 8 2 = s.buf.read 8 2 := Memory.read_write_of_not_mem _ b (.inr hi)
  rw [State.bodyKnown, Memory.le16, hread]
  exact h

/-! ### Every operation of the scanner keeps the invariant -/

/-- A scan that waits for sync byte 1 with its registers cleared: after DROP and after START (R120, R122). -/
theorem inv_of_cleared {s : State} (hst : s.st = .wantSync1) (hw : s.buf.wf) (hidx : s.idx = 0) (hacc : s.acc = 0)
    (hf : s.fresh) (ho : s.noOutput) : s.Inv :=
  inv_of_reading (by rw [hst]; rfl) hw (by simpa only [State.candidateInv, hst] using ⟨hidx, hacc, hf⟩) ho

theorem inv_drop {s : State} (hw : s.buf.wf) (ho : s.noOutput) : s.drop.Inv :=
  inv_of_cleared rfl hw rfl rfl ⟨rfl, rfl, rfl, rfl⟩ ho

theorem inv_startScan {s : State} (v : Bool) (hw : s.buf.wf) : (s.startScan v).Inv :=
  inv_of_cleared rfl hw rfl rfl ⟨rfl, rfl, rfl, rfl⟩ ⟨rfl, rfl, rfl⟩

theorem inv_anchor {s : State} (hw : s.buf.wf) (ho : s.noOutput) : (s.anchor Config.sync1).Inv :=
  inv_of_reading rfl (Memory.wf_write _ hw (by decide)) ⟨s.holds_anchor _, rfl, rfl, rfl, rfl⟩ ho

theorem inv_endScan {s : State} {r : ResCode} (hw : s.buf.wf) (hr : hasFrame r = false) : (s.endScan r).Inv :=
  inv_of_idle_without_frame rfl hw rfl hr rfl

/-- R126: the second preamble byte. -/
theorem candidateInv_sync2Match {s : State} (hst : s.st = .wantSync2) (hc : s.candidateInv)
    (hi : s.idx.toNat < Config.frameMax) : ((s.store Config.sync2).goto .wantSync3).candidateInv := by
  simp only [State.candidateInv, hst] at hc
  obtain ⟨hh, hf⟩ := hc
  exact ⟨State.holds_store _ hh hi, hf⟩

/-- R129: the third preamble byte. -/
theorem candidateInv_sync3Match {s : State} (hst : s.st = .wantSync3) (hc : s.candidateInv)
    (hi : s.idx.toNat < Config.frameMax) : ((s.store Config.sync3).goto .wantHeaderLen).candidateInv := by
  simp only [State.candidateInv, hst] at hc
  obtain ⟨hh, hf⟩ := hc
  exact ⟨State.holds_store _ hh hi, hf⟩

/-- R132: the header length completes the head of the header. -/
theorem candidateInv_hlenAccept {s : State} {b : Byte} (hst : s.st = .wantHeaderLen) (hc : s.candidateInv)
    (hi : s.idx.toNat < Config.frameMax) (hb : Config.hdrMin ≤ b.toNat) :
    State.candidateInv { s.store b with hlen := b, st := .headerRest } := by
  simp only [State.candidateInv, hst] at hc
  obtain ⟨hh, -, hblen, htrl, htcnt⟩ := hc
  have h10 : 10 ≤ b.toNat := hb
  exact ⟨_, State.holds_store b hh hi, ⟨hb, rfl⟩, by simp, by simp; omega, hblen, htrl, htcnt⟩

/-- R134: a byte inside the header. -/
theorem candidateInv_hdrByte {s : State} {b : Byte} (hst : s.st = .headerRest) (hc : s.candidateInv)
    (hi : s.idx.toNat < Config.frameMax) (hlt : s.idx.toNat + 1 < s.hlen.toNat) : (s.store b).candidateInv := by
  simp only [State.candidateInv, hst] at hc
  obtain ⟨bs, hh, hk, h4, -, hz⟩ := hc
  have hidx := hh.idx_toNat
  simp only [State.candidateInv, State.store_st, hst]
  exact ⟨_, State.holds_store b hh hi, State.headerKnown_store b hk h4, by simp; omega, by simp; omega, hz⟩

/-- R135: the last byte of the header; the body length is read from it, and an empty body goes to the trailer. -/
theorem candidateInv_hdrLast {s : State} {b : Byte} {bl : BitVec 16} (hst : s.st = .headerRest)
    (hc : s.candidateInv) (hi : s.idx.toNat < Config.frameMax) (hlast : s.idx.toNat + 1 = s.hlen.toNat)
    (hbl : (s.store b).buf.le16 8 = some bl) :
    State.candidateInv { s.store b with blen := bl, st := if 0 < bl.toNat then .body else .trailer } := by
  simp only [State.candidateInv, hst] at hc
  obtain ⟨bs, hh, hk, h4, -, -, htrl, htcnt⟩ := hc
  have hidx := hh.idx_toNat
  have hh' := State.holds_store b hh hi
  have hk' := State.headerKnown_store b hk h4
  have hlen : (bs ++ [b]).length = s.hlen.toNat := by simp; omega
  by_cases h0 : 0 < bl.toNat
  · rw [if_pos h0]
    exact ⟨_, hh', hk', hbl, hlen.ge, by simp only [State.store_hlen]; omega, htrl, htcnt⟩
  · rw [if_neg h0]
    refine ⟨_, hh', hk', hbl, by simp only [State.store_hlen]; omega, ?_, ?_⟩
    · simp [htcnt]
    · simp [htcnt, htrl]

/-- A byte of the body extends the candidate and leaves its header as it was. -/
theorem candidate_store_body {s : State} {b : Byte} (hst : s.st = .body) (hc : s.candidateInv)
    (hi : s.idx.toNat < Config.frameMax) :
    ∃ bs, (s.store b).holds bs ∧ (s.store b).headerKnown bs ∧ (s.store b).bodyKnown ∧
      bs.length = s.idx.toNat + 1 ∧ s.hlen.toNat ≤ bs.length ∧ s.trl = 0 ∧ s.tcnt = 0 := by
  simp only [State.candidateInv, hst] at hc
  obtain ⟨bs, hh, hk, hb, hle, -, hz⟩ := hc
  have hidx := hh.idx_toNat
  have h10 : 10 ≤ s.hlen.toNat := hk.1
  exact ⟨bs ++ [b], State.holds_store b hh hi, State.headerKnown_store b hk (by omega),
    State.bodyKnown_store b hb (by omega), by simp [hidx], by simp; omega, hz⟩

/-- R136: a byte inside the body. -/
theorem candidateInv_bodyByte {s : State} {b : Byte} (hst : s.st = .body) (hc : s.candidateInv)
    (hi : s.idx.toNat < Config.frameMax) (hlt : s.idx.toNat + 1 < s.hlen.toNat + s.blen.toNat) :
    (s.store b).candidateInv := by
  obtain ⟨bs, hh, hk, hb, hlen, hle, hz⟩ := candidate_store_body (b := b) hst hc hi
  simp only [State.candidateInv, State.store_st, hst]
  exact ⟨bs, hh, hk, hb, hle, hlen ▸ hlt, hz⟩

/-- R137: the last byte of the body. -/
theorem candidateInv_bodyLast {s : State} {b : Byte} (hst : s.st = .body) (hc : s.candidateInv)
    (hi : s.idx.toNat < Config.frameMax) (hlast : s.idx.toNat + 1 = s.hlen.toNat + s.blen.toNat) :
    ((s.store b).goto .trailer).candidateInv := by
  obtain ⟨bs, hh, hk, hb, hlen, -, htrl, htcnt⟩ := candidate_store_body (b := b) hst hc hi
  exact ⟨bs, hh, hk, hb, hlen.trans hlast, by simp [htcnt], by simp [htrl, htcnt]⟩

/-- A byte placed behind `t` trailer bytes gives a value of `t + 1` bytes (R26, R138). -/
theorem trailer_byte_lt {trl : Word} {b : Byte} {t : Nat} (htrl : trl.toNat < 2 ^ (8 * t)) :
    (trl ||| (b.setWidth 32 <<< (8 * t))).toNat < 2 ^ (8 * (t + 1)) := by
  have hpow : 2 ^ (8 * (t + 1)) = 256 * 2 ^ (8 * t) := by rw [Nat.mul_succ, Nat.pow_add, Nat.mul_comm]
  rw [BitVec.toNat_or]
  refine Nat.or_lt_two_pow (by omega) ?_
  calc (b.setWidth 32 <<< (8 * t)).toNat
      ≤ b.toNat * 2 ^ (8 * t) := by
        rw [BitVec.toNat_shiftLeft, BitVec.toNat_setWidth_of_le (by decide), Nat.shiftLeft_eq]
        exact Nat.mod_le _ _
    _ < 256 * 2 ^ (8 * t) := Nat.mul_lt_mul_of_pos_right b.isLt (by positivity)
    _ = 2 ^ (8 * (t + 1)) := hpow.symm

/-- R138: a byte of the trailer that is not its last. -/
theorem candidateInv_trlByte {s : State} {b : Byte} (hst : s.st = .trailer) (hc : s.candidateInv)
    (hlt : s.tcnt.toNat < 3) : State.candidateInv
      { s with trl := s.trl ||| (b.setWidth 32 <<< (8 * s.tcnt.toNat)), tcnt := s.tcnt + 1 } := by
  simp only [State.candidateInv, hst] at hc ⊢
  obtain ⟨bs, hh, hk, hb, hlen, -, htrl⟩ := hc
  have htcnt : (s.tcnt + 1).toNat = s.tcnt.toNat + 1 := by bv_omega
  refine ⟨bs, hh, hk, hb, hlen, by omega, ?_⟩
  rw [htcnt]
  exact trailer_byte_lt htrl

/-- R139: the trailer that matches accepts the candidate as a frame (R146). -/
theorem accepted_trlAccept {s : State} {b : Byte} (hst : s.st = .trailer) (hc : s.candidateInv)
    (hcrc : fullTrailer s.trl b = s.acc) :
    State.accepted { s with trl := fullTrailer s.trl b, tcnt := 4, frameLen := s.idx, st := .decode } := by
  simp only [State.candidateInv, hst] at hc
  obtain ⟨bs, hh, hk, hb, hlen, -, -⟩ := hc
  have hidx := hh.idx_toNat
  exact ⟨bs, hh, hk, hb, hlen, hidx, hcrc, rfl⟩

/-- Every operation that a data byte selects keeps the invariant (R124 to R140). -/
theorem exec_decodeData_keeps_inv {s t : State} {b : Byte} {i : Instr} (hs : s.Inv) (hr : isReading s.st = true)
    (hd : decodeData s.conds s.st b = .ok i) (h : exec i s = .next t) : t.Inv := by
  have ho := noOutput_of_inv hs hr
  obtain ⟨hw, hc, -⟩ := hs
  rcases exec_decodeData_next rfl hd h with ⟨-, -, rfl⟩ | ⟨-, rfl, -, rfl⟩ | ⟨-, -, rfl⟩ | ⟨hi, hstore⟩ |
    ⟨hst, hlt, rfl⟩ | ⟨hst, -, hcrc, rfl⟩
  · exact inv_of_reading hr hw hc ho
  · exact inv_anchor hw ho
  · exact inv_drop hw ho
  · have hw' : (s.store b).buf.wf := Memory.wf_write b hw hi
    rcases hstore with ⟨hst, rfl, rfl⟩ | ⟨hst, rfl, rfl⟩ | ⟨hst, hb, rfl⟩ | ⟨hst, hlt, rfl⟩ | ⟨hst, hl, bl, hbl, rfl⟩ |
      ⟨hst, hlt, rfl⟩ | ⟨hst, hl, rfl⟩
    · exact inv_of_reading rfl hw' (candidateInv_sync2Match hst hc hi) ho
    · exact inv_of_reading rfl hw' (candidateInv_sync3Match hst hc hi) ho
    · exact inv_of_reading rfl hw' (candidateInv_hlenAccept hst hc hi hb) ho
    · exact inv_of_reading hr hw' (candidateInv_hdrByte hst hc hi hlt) ho
    · refine inv_of_reading ?_ hw' (candidateInv_hdrLast hst hc hi hl hbl) ho
      dsimp only
      split <;> rfl
    · exact inv_of_reading hr hw' (candidateInv_bodyByte hst hc hi hlt) ho
    · exact inv_of_reading rfl hw' (candidateInv_bodyLast hst hc hi hl) ho
  · exact inv_of_reading hr hw (candidateInv_trlByte hst hc hlt) ho
  · exact inv_of_decode rfl hw (accepted_trlAccept hst hc hcrc) ho.1 ho.2.2

/-- The decode step keeps the invariant: the accepted frame stays, and the record is what it decodes to (R160). -/
theorem execDecStep_keeps_inv {s t : State} (hs : s.Inv) (h : execDecStep s = .next t) : t.Inv := by
  obtain ⟨hst, r, o, rfl, hout⟩ := execDecStep_next h
  obtain ⟨hw, hc, -, -, -, hacc, -⟩ := hs
  have hframe : s.frameLen ≠ 0 := by simpa only [State.candidateInv, hst] using hc
  have hpos : ((s.setOutcome r o).goto .idle).positionRecord = s.positionRecord :=
    State.positionRecord_congr rfl rfl rfl rfl
  have hver : ((s.setOutcome r o).goto .idle).versionRecord = s.versionRecord :=
    State.versionRecord_congr rfl rfl rfl
  have hr : hasFrame r = true := by
    rcases hout with ⟨rfl, -⟩ | ⟨rfl, -⟩ | ⟨rfl, -⟩ | ⟨rfl, -⟩ <;> rfl
  refine ⟨hw, trivial, fun h => absurd rfl h, nofun, fun _ => iff_of_true hframe hr, fun _ => hacc hframe, ?_⟩
  rcases hout with ⟨rfl, p, rfl, hp⟩ | ⟨rfl, v, rfl, hv⟩ | ⟨rfl, rfl⟩ | ⟨rfl, rfl⟩
  · exact ⟨p, rfl, hpos.trans hp⟩
  · exact ⟨v, rfl, hver.trans hv⟩
  · rfl
  · rfl

/-- Every move of the core keeps the invariant. -/
theorem coreFetch_keeps_inv {s t : State} (hs : s.Inv) (h : runFetched (coreFetch s) = .next t) : t.Inv := by
  rcases coreFetch_next h with ⟨-, h⟩ | ⟨-, -, rfl⟩ | ⟨hr, rest, ⟨-, -, rfl⟩ | ⟨-, rfl⟩ | ⟨b, i, -, hd, h⟩⟩
  · exact execDecStep_keeps_inv hs h
  · exact hs
  · exact inv_endScan hs.1 rfl
  · exact inv_endScan hs.1 rfl
  · exact exec_decodeData_keeps_inv (hs.of_sameScan (t := s.setStream rest) {}) hr hd h

theorem inv_resetCore (s : State) : s.resetCore.Inv := inv_of_idle_without_frame rfl Memory.wf_nil rfl rfl rfl

/-- Settles O45: the state after reset is what the reset action makes of itself. -/
theorem resetMeetsTheInvariant : Obligations.ResetMeetsTheInvariant := inv_resetCore State.reset

/-- Settles O46: the core's move, or one turn of the host, of which only START in IDLE and reset touch the scan. -/
theorem stepKeepsTheInvariant : Obligations.StepKeepsTheInvariant := by
  intro s t hs h
  have hs' (turns : List HostTurn) : (s.setHost turns).Inv := hs.of_sameScan {}
  rcases step_next h with ⟨turns, -, h⟩ | ⟨turns, w, -, h⟩ | ⟨turns, target, w, -, -, rfl⟩ |
    ⟨turns, target, -, h⟩ | ⟨turns, -, rfl⟩
  · exact coreFetch_keeps_inv (hs' turns) h
  · rcases exec_decodeCtrl_next h with ⟨-, -, rfl⟩ | ⟨-, -, rfl⟩ | ⟨-, rfl⟩
    · exact inv_startScan _ hs.1
    · exact hs.of_sameScan {}
    · exact hs.of_sameScan {}
  · exact hs' turns
  · rcases hostRead_next h with ⟨i, -, -, rfl⟩ | ⟨-, r, rfl⟩ <;> exact hs.of_sameScan {}
  · exact inv_resetCore _

end Sys2Proof.Machine

/-! SUPPORT. The proof of the statement of spec/20_memory.md: how a step uses the byte stream. -/

namespace Sys2Proof.Machine

open Sys2Proof.Certificates

/-- The operation that a data byte selects reads no further answer: its byte is already taken (R121, R147). -/
theorem exec_decodeData_stream {s t : State} {st : ScanState} {b : Byte} {i : Instr} (hst : s.st = st)
    (hd : decodeData s.conds st b = .ok i) (h : exec i s = .next t) : t.stream = s.stream := by
  rcases exec_decodeData_next hst hd h with ⟨-, -, rfl⟩ | ⟨-, -, -, rfl⟩ | ⟨-, -, rfl⟩ | ⟨-, hstore⟩ | ⟨-, -, rfl⟩ |
    ⟨-, -, -, rfl⟩
  case inr.inr.inr.inl =>
    rcases hstore with ⟨-, -, rfl⟩ | ⟨-, -, rfl⟩ | ⟨-, -, rfl⟩ | ⟨-, -, rfl⟩ | ⟨-, -, _, -, rfl⟩ | ⟨-, -, rfl⟩ |
      ⟨-, -, rfl⟩ <;> rfl
  all_goals rfl

/-- A move of the core takes the first answer in a reading state, and none in the decode step or a hold. -/
theorem coreFetch_stream {s t : State} (h : runFetched (coreFetch s) = .next t) :
    t.stream = s.stream ∨ isReading s.st = true ∧ ∃ r, s.stream = r :: t.stream := by
  rcases coreFetch_next h with ⟨-, h⟩ | ⟨-, -, rfl⟩ | ⟨hr, rest, ⟨hs, -, rfl⟩ | ⟨hs, rfl⟩ | ⟨b, i, hs, hd, h⟩⟩
  · obtain ⟨-, r, o, rfl, -⟩ := execDecStep_next h
    exact .inl rfl
  · exact .inl rfl
  · exact .inr ⟨hr, .timeout, hs⟩
  · exact .inr ⟨hr, .error, hs⟩
  · have ht : t.stream = rest := exec_decodeData_stream (s := s.setStream rest) rfl hd h
    exact .inr ⟨hr, .data b, by rw [hs, ht]⟩

/-- No CTRL write reaches the byte source; START leaves what arrived before it to the new scan (R120). -/
theorem exec_decodeCtrl_stream {s t : State} {w : Byte} (h : exec (decodeCtrl w) s = .next t) :
    t.stream = s.stream := by
  rcases exec_decodeCtrl_next h with ⟨-, -, rfl⟩ | ⟨-, -, rfl⟩ | ⟨-, rfl⟩ <;> rfl

/-- No host read reaches the byte source (R34, R52). -/
theorem hostRead_stream {s t : State} {target : Target} (h : hostRead s target = .next t) :
    t.stream = s.stream := by
  rcases hostRead_next h with ⟨i, -, -, rfl⟩ | ⟨-, r, rfl⟩ <;> rfl

/-- Settles O53: only the core's move takes an answer; a turn of the host, reset included, takes none. -/
theorem answersAreTakenOnceInOrder : Obligations.AnswersAreTakenOnceInOrder := by
  intro s t h
  rcases step_next h with ⟨turns, -, h⟩ | ⟨turns, w, -, h⟩ | ⟨turns, target, w, -, -, rfl⟩ |
    ⟨turns, target, -, h⟩ | ⟨turns, -, rfl⟩
  · exact coreFetch_stream (s := s.setHost turns) h
  · exact .inl (exec_decodeCtrl_stream (s := s.setHost turns) h)
  · exact .inl rfl
  · exact .inl (hostRead_stream (s := s.setHost turns) h)
  · exact .inl rfl

end Sys2Proof.Machine

/-! SUPPORT. The proofs of the statements of spec/30_encoding.md: selector words, CTRL values and their decoder; what an
operation can refuse; and the fields of the position record. -/

namespace Sys2Proof

/-! ### The scanner selector and its fields -/

theorem selectorWord_inj {k k' : BitVec 2} {c c' : BitVec 4} {b b' : Byte} :
    selectorWord k c b = selectorWord k' c' b' ↔ k = k' ∧ c = c' ∧ b = b' := by
  refine ⟨fun h => ⟨?_, ?_, ?_⟩, by rintro ⟨rfl, rfl, rfl⟩; rfl⟩
  · simpa using congrArg (BitVec.extractLsb' 12 2) h
  · simpa using congrArg (BitVec.extractLsb' 8 4) h
  · simpa using congrArg (BitVec.extractLsb' 0 8) h

/-- A selector word is made of its three fields (R88). -/
theorem selectorWord_fields (w : BitVec 14) :
    selectorWord (w.extractLsb' 12 2) (w.extractLsb' 8 4) (w.extractLsb' 0 8) = w := by
  refine BitVec.eq_of_getLsbD_eq fun i hi => ?_
  simp only [selectorWord, BitVec.getLsbD_append, BitVec.getLsbD_extractLsb']
  by_cases h8 : i < 8
  · simp [h8]
  · by_cases h12 : i < 12
    · simp [h8, show i - 8 < 4 by omega, show 8 + (i - 8) = i by omega]
    · simp [h8, show ¬i - 8 < 4 by omega, show i - 8 - 4 < 2 by omega, show 12 + (i - 8 - 4) = i by omega]

theorem stateOfCode_eq_some {code : BitVec 4} {st : ScanState} :
    stateOfCode code = some st ↔ code = codeOfState st := by
  refine ⟨?_, by rintro rfl; exact stateOfCode_codeOfState st⟩
  cases st <;> revert code <;> decide

theorem codeOfState_inj {st st' : ScanState} : codeOfState st = codeOfState st' ↔ st = st' :=
  ⟨fun h => Option.some.inj (by rw [← stateOfCode_codeOfState, h, stateOfCode_codeOfState]), congrArg _⟩

theorem codeOfState_lt (st : ScanState) : (codeOfState st).toNat < 9 := by cases st <;> decide

/-- The word of a data response names the state and the byte. -/
theorem selectorOf_data_inj {b b' : Byte} {st st' : ScanState} :
    selectorOf (.data b) st = selectorOf (.data b') st' ↔ b = b' ∧ st = st' := by
  simp only [selectorOf, selectorWord_inj, codeOfState_inj, true_and, and_comm]

theorem selectorOf_timeout_ne_data {b : Byte} {st st' : ScanState} :
    selectorOf .timeout st ≠ selectorOf (.data b) st' := fun h => by
  simpa using (selectorWord_inj.1 h).1

theorem selectorOf_error_ne_data {b : Byte} {st st' : ScanState} :
    selectorOf .error st ≠ selectorOf (.data b) st' := fun h => by
  simpa using (selectorWord_inj.1 h).1

/-- Every row that `decodeData` selects has the data word of its state, and the byte and the registers meet the row's
condition (R88). -/
theorem encode_of_decodeData {c : Conds} {st : ScanState} {b : Byte} {i : Instr} (h : decodeData c st b = .ok i) :
    encode i = some (.response (selectorOf (.data b) st)) ∧ i.wellFormed = true ∧ rowCondition c i = true := by
  cases st <;> simp only [decodeData] at h
  case idle | decode => cases h
  case wantSync1 =>
    split at h <;> cases h
    · subst_vars; exact ⟨rfl, rfl, rfl⟩
    · exact ⟨rfl, bne_iff_ne.2 ‹_›, rfl⟩
  case wantSync2 | wantSync3 =>
    split at h
    · cases h; subst_vars; exact ⟨rfl, rfl, rfl⟩
    · split at h <;> cases h
      · subst_vars; exact ⟨rfl, rfl, rfl⟩
      · exact ⟨rfl, by simp [Instr.wellFormed, *], rfl⟩
  case wantHeaderLen =>
    split at h <;> cases h
    · exact ⟨rfl, decide_eq_true ‹_›, rfl⟩
    · exact ⟨rfl, decide_eq_true (Nat.not_le.1 ‹_›), rfl⟩
  case headerRest | body =>
    split at h
    · cases h; exact ⟨rfl, rfl, decide_eq_true ‹_›⟩
    · split at h <;> cases h
      exact ⟨rfl, rfl, decide_eq_true ‹_›⟩
  case trailer =>
    split at h
    · cases h; exact ⟨rfl, rfl, decide_eq_true ‹_›⟩
    · split at h
      · split at h <;> cases h <;> exact ⟨rfl, rfl, by simp [rowCondition, *]⟩
      · cases h

/-- A row with a data word is the one `decodeData` selects when the byte and the registers meet its condition: in each
state the conditions of the rows before it in priority order are then false (R88). -/
theorem decodeData_of_encode {c : Conds} {st : ScanState} {b : Byte} {i : Instr}
    (he : encode i = some (.response (selectorOf (.data b) st))) (hwf : i.wellFormed = true)
    (hrow : rowCondition c i = true) : decodeData c st b = .ok i := by
  cases i <;> simp only [encode, Option.some.injEq, Selector.response.injEq, selectorOf_data_inj, reduceCtorEq,
    selectorOf_timeout_ne_data, selectorOf_error_ne_data] at he
  all_goals
    obtain ⟨rfl, rfl⟩ := he
    simp only [Instr.wellFormed, rowCondition, bne_iff_ne, Bool.and_eq_true, decide_eq_true_eq] at hwf hrow
    rw [decodeData]
  case sync1Match | sync2Match | sync2Reanchor | sync3Match | sync3Reanchor => rfl
  case sync1Skip => rw [if_neg hwf]
  case sync2Reset | sync3Reset => rw [if_neg hwf.1, if_neg hwf.2]
  case hlenAccept => rw [if_pos hwf]
  case hlenReject => rw [if_neg (Nat.not_le.2 hwf)]
  case hdrByte | bodyByte | trlByte => rw [if_pos hrow]
  case hdrLast | bodyLast => rw [if_neg hrow.not_lt, if_pos hrow]
  case trlAccept => rw [if_neg hrow.1.not_lt, if_pos hrow.1, if_pos hrow.2]
  case trlMismatch => rw [if_neg hrow.1.not_lt, if_pos hrow.1, if_neg hrow.2]

/-- The operations that have a scanner selector word: RX.TIMEOUT, RX.ERROR, and those whose word is a data response. -/
theorem encode_response {i : Instr} {w : BitVec 14} (h : encode i = some (.response w)) :
    i = .rxTimeout ∨ i = .rxError ∨ ∃ b st, w = selectorOf (.data b) st := by
  cases i
  case rxTimeout => exact .inl rfl
  case rxError => exact .inr (.inl rfl)
  all_goals cases h
  all_goals exact .inr (.inr ⟨_, _, rfl⟩)

/-- What a scanner selector word can select: RX.TIMEOUT, RX.ERROR, or the row of a data response (R88). -/
theorem decodeResponse_ok {c : Conds} {w : BitVec 14} {i : Instr} (h : decodeResponse c w = .ok i) :
    i = .rxTimeout ∨ i = .rxError ∨ ∃ b st, w = selectorOf (.data b) st ∧ decodeData c st b = .ok i := by
  simp only [decodeResponse] at h
  split at h
  · cases h
  · rename_i st hst
    split at h
    · rename_i hk
      refine .inr (.inr ⟨_, st, ?_, h⟩)
      rw [selectorOf, ← stateOfCode_eq_some.1 hst, ← hk, selectorWord_fields]
    · split at h
      · cases h
      · split at h
        · cases h
        · split at h <;> cases h
          · exact .inl rfl
          · exact .inr (.inl rfl)

/-- `kind = 3` and the codes 9 to 15 are rejected whatever the byte and the registers are (R20, R92). -/
theorem decodeResponse_reserved (c : Conds) {kind : BitVec 2} {code : BitVec 4} (b : Byte)
    (h : kind = 3 ∨ 9 ≤ code.toNat) :
    decodeResponse c (selectorWord kind code b) = .error .reservedKind ∨
      decodeResponse c (selectorWord kind code b) = .error .reservedState := by
  cases hst : stateOfCode code with
  | none => exact .inr (by simp [decodeResponse, hst])
  | some st =>
    have hcode := codeOfState_lt st
    rw [← stateOfCode_eq_some.1 hst] at hcode
    obtain rfl := h.resolve_right (by omega)
    exact .inl (by simp [decodeResponse, hst])

/-! ### The CTRL value and its fields -/

theorem ctrlWord_fields (w : Byte) : ctrlWord (w.getLsbD 0) (w.getLsbD 1) (w.extractLsb' 2 6) = w := by
  revert w; decide

theorem decodeCtrl_ctrlWord (start tmoEn : Bool) (ignored : BitVec 6) :
    decodeCtrl (ctrlWord start tmoEn ignored) =
      if start then .ctrlStart tmoEn ignored else .ctrlCfg tmoEn ignored := by
  revert start tmoEn ignored; decide

/-- The operations that have a CTRL value are the two that a CTRL write selects (R90). -/
theorem decodeCtrl_of_encode {i : Instr} {w : Byte} (h : encode i = some (.ctrl w)) : decodeCtrl w = i := by
  cases i
  case ctrlStart t r => cases h; exact decodeCtrl_ctrlWord true t r
  case ctrlCfg t r => cases h; exact decodeCtrl_ctrlWord false t r
  all_goals cases h

/-- What a CTRL value selects has that value, and no condition to meet (R90). -/
theorem encode_decodeCtrl (c : Conds) (w : Byte) :
    encode (decodeCtrl w) = some (.ctrl w) ∧ (decodeCtrl w).wellFormed = true ∧
      rowCondition c (decodeCtrl w) = true := by
  have hw := ctrlWord_fields w
  unfold decodeCtrl
  split <;> rename_i h0
  · rw [h0] at hw; exact ⟨by rw [encode, hw], rfl, rfl⟩
  · rw [Bool.eq_false_iff.2 h0] at hw; exact ⟨by rw [encode, hw], rfl, rfl⟩

/-! ### The statements about selectors -/

/-- Settles O10: a CTRL value gives its operation back, and a scanner word by the response that forms it. -/
theorem decodeOfEncodeGivesTheOperation : Obligations.DecodeOfEncodeGivesTheOperation := by
  intro c i w hwf hrow he
  cases w with
  | ctrl w => exact congrArg Except.ok (decodeCtrl_of_encode he)
  | response w =>
    rcases encode_response he with rfl | rfl | ⟨b, st, rfl⟩
    · cases he; exact decodeResponse_timeout c .wantSync1
    · cases he; exact decodeResponse_error c .wantSync1
    · exact (decodeResponse_data c st b).trans (decodeData_of_encode he hwf hrow)

/-- Settles O11: a CTRL value, or the response that the scanner word is formed by. -/
theorem encodeOfDecodeGivesTheWord : Obligations.EncodeOfDecodeGivesTheWord := by
  intro c i w h
  cases w with
  | ctrl w =>
    cases h
    obtain ⟨he, hwf, hrow⟩ := encode_decodeCtrl c w
    exact ⟨hwf, hrow, fun _ _ => he⟩
  | response w =>
    rcases decodeResponse_ok h with rfl | rfl | ⟨b, st, rfl, hd⟩
    · exact ⟨rfl, rfl, fun hn => absurd rfl hn⟩
    · exact ⟨rfl, rfl, fun _ hn => absurd rfl hn⟩
    · obtain ⟨he, hwf, hrow⟩ := encode_of_decodeData hd
      exact ⟨hwf, hrow, fun _ _ => he⟩

/-- Settles O12: the word is `selectorWord` of its three fields. -/
theorem reservedSelectorsAreRejected : Obligations.ReservedSelectorsAreRejected :=
  fun c _ _ b h => decodeResponse_reserved c b h

/-- Settles O13: each word by computation. -/
theorem wordsOfTheTablesDecode : Obligations.WordsOfTheTablesDecode := by
  unfold Obligations.WordsOfTheTablesDecode
  decide

end Sys2Proof

namespace Sys2Proof.Machine

open Sys2Proof.Certificates

/-! ### What an operation can refuse -/

/-- The outcome refuses, if it does, as an operation that is not selected, and for no other reason (log 8). -/
def refusesOnlyUnselected (o : Result) : Prop := ∀ r, o = .refused r → r = .notSelected

theorem refusesOnlyUnselected_next (t : State) : refusesOnlyUnselected (.next t) := nofun

theorem refusesOnlyUnselected_whenSelected {c : Bool} {o : Result} (h : refusesOnlyUnselected o) :
    refusesOnlyUnselected (whenSelected c o) := by
  cases c
  · rintro r ⟨⟩; rfl
  · exact h

theorem refusesOnlyUnselected_withStored {s : State} {b : Byte} {k : State → Result}
    (h : ∀ t, refusesOnlyUnselected (k t)) : refusesOnlyUnselected (withStored s b k) := by
  unfold withStored
  split
  · exact h _
  · nofun

theorem refusesOnlyUnselected_withValue {α : Type} {v : Option α} {k : α → Result}
    (h : ∀ a, refusesOnlyUnselected (k a)) : refusesOnlyUnselected (withValue v k) := by
  cases v with
  | none => nofun
  | some a => exact h a

theorem refusesOnlyUnselected_withDecoded {α : Type} {v : Except Fault α} {k : α → Result}
    (h : ∀ a, refusesOnlyUnselected (k a)) : refusesOnlyUnselected (withDecoded v k) := by
  cases v with
  | error e => nofun
  | ok a => exact h a

theorem refusesOnlyUnselected_andThen {o : Result} {k : State → Result} (ho : refusesOnlyUnselected o)
    (hk : ∀ t, refusesOnlyUnselected (k t)) : refusesOnlyUnselected (andThen o k) := by
  cases o with
  | next t => exact hk t
  | fault f => nofun
  | refused r => rintro _ ⟨⟩; exact ho r rfl

/-- A row that stores its byte and goes on refuses only where it is not selected. -/
theorem refusesOnlyUnselected_storing {c : Bool} {s : State} {b : Byte} (g : State → State) :
    refusesOnlyUnselected (whenSelected c (withStored s b fun t => .next (g t))) :=
  refusesOnlyUnselected_whenSelected (refusesOnlyUnselected_withStored fun _ => refusesOnlyUnselected_next _)

theorem execHdrLast_refusesOnlyUnselected (b : Byte) (s : State) : refusesOnlyUnselected (execHdrLast b s) :=
  refusesOnlyUnselected_whenSelected (refusesOnlyUnselected_withStored fun _ =>
    refusesOnlyUnselected_withValue fun _ => refusesOnlyUnselected_next _)

theorem execDecPos_refusesOnlyUnselected (s : State) : refusesOnlyUnselected (execDecPos s) :=
  refusesOnlyUnselected_whenSelected (refusesOnlyUnselected_withValue fun _ =>
    refusesOnlyUnselected_whenSelected (refusesOnlyUnselected_withDecoded fun _ => refusesOnlyUnselected_next _))

theorem execDecVer_refusesOnlyUnselected (s : State) : refusesOnlyUnselected (execDecVer s) :=
  refusesOnlyUnselected_whenSelected (refusesOnlyUnselected_withValue fun _ =>
    refusesOnlyUnselected_whenSelected (refusesOnlyUnselected_withDecoded fun _ =>
      refusesOnlyUnselected_whenSelected (refusesOnlyUnselected_withDecoded fun _ => refusesOnlyUnselected_next _)))

theorem execDecIntegrity_refusesOnlyUnselected (s : State) : refusesOnlyUnselected (execDecIntegrity s) := by
  refine refusesOnlyUnselected_whenSelected (refusesOnlyUnselected_withValue fun mt => ?_)
  split
  · exact refusesOnlyUnselected_whenSelected (refusesOnlyUnselected_next _)
  · exact refusesOnlyUnselected_whenSelected (refusesOnlyUnselected_withDecoded fun _ =>
      refusesOnlyUnselected_whenSelected (refusesOnlyUnselected_next _))

theorem execDecOther_refusesOnlyUnselected (s : State) : refusesOnlyUnselected (execDecOther s) :=
  refusesOnlyUnselected_whenSelected (refusesOnlyUnselected_withValue fun _ =>
    refusesOnlyUnselected_whenSelected (refusesOnlyUnselected_next _))

/-- DEC.DISPATCH refuses as the rows that it can run do (R161). -/
theorem execDecDispatch_refusesOnlyUnselected (s : State) : refusesOnlyUnselected (execDecDispatch s) := by
  refine refusesOnlyUnselected_whenSelected (refusesOnlyUnselected_withValue fun mt => ?_)
  split
  · split
    · exact execDecPos_refusesOnlyUnselected s
    · exact execDecIntegrity_refusesOnlyUnselected s
  · split
    · refine refusesOnlyUnselected_withDecoded fun fits => ?_
      split
      · exact execDecVer_refusesOnlyUnselected s
      · exact execDecIntegrity_refusesOnlyUnselected s
    · exact execDecOther_refusesOnlyUnselected s

theorem execDecStep_refusesOnlyUnselected (s : State) : refusesOnlyUnselected (execDecStep s) :=
  refusesOnlyUnselected_andThen (execDecDispatch_refusesOnlyUnselected s) fun _ => refusesOnlyUnselected_next _

theorem execCtrlStart_refusesOnlyUnselected (v : Bool) (r : BitVec 6) (s : State) :
    refusesOnlyUnselected (execCtrlStart v r s) := by
  unfold execCtrlStart
  split <;> exact refusesOnlyUnselected_next _

/-- Every operation but RX.TIMEOUT refuses only where it is not selected: by the shape of its meaning (R123, R161). -/
theorem exec_refusesOnlyUnselected {i : Instr} (s : State) (hi : i ≠ .rxTimeout) :
    refusesOnlyUnselected (exec i s) := by
  cases i
  case rxTimeout => exact absurd rfl hi
  case rxError | sync1Match | sync1Skip | sync2Reanchor | sync2Reset | sync3Reanchor | sync3Reset | hlenReject |
      trlByte | trlAccept | trlMismatch =>
    exact refusesOnlyUnselected_whenSelected (refusesOnlyUnselected_next _)
  case sync2Match | sync3Match | hlenAccept | hdrByte | bodyByte | bodyLast =>
    exact refusesOnlyUnselected_storing _
  case hdrLast b => exact execHdrLast_refusesOnlyUnselected b s
  case decStep => exact execDecStep_refusesOnlyUnselected s
  case decDispatch => exact execDecDispatch_refusesOnlyUnselected s
  case decPos => exact execDecPos_refusesOnlyUnselected s
  case decVer => exact execDecVer_refusesOnlyUnselected s
  case decIntegrity => exact execDecIntegrity_refusesOnlyUnselected s
  case decOther => exact execDecOther_refusesOnlyUnselected s
  case ctrlStart v r => exact execCtrlStart_refusesOnlyUnselected v r s
  case ctrlCfg | crcXform | crcStep | crcBlock | crcInit | crcCheck | asciiTrim | flagTest | lutSolstat | lutPostype |
      lutDatum | lutComptype =>
    exact refusesOnlyUnselected_next _

/-- RX.TIMEOUT refuses by its own name exactly with a read outstanding and `tmo_en = 0` (R92, R121). -/
theorem execRxTimeout_inadmissible_iff (s : State) :
    execRxTimeout s = .refused .timeoutInadmissible ↔ isReading s.st = true ∧ s.tmoEn = false := by
  unfold execRxTimeout whenSelected
  cases isReading s.st <;> cases s.tmoEn <;> simp

/-- Settles O29: RX.TIMEOUT by its two conditions; every other operation refuses only where it is not selected. -/
theorem timeoutInDebugModeIsRefused : Obligations.TimeoutInDebugModeIsRefused := by
  refine ⟨fun s hr => (execRxTimeout_inadmissible_iff s).trans (and_iff_right hr), fun s i h => ?_⟩
  by_cases hi : i = .rxTimeout
  · subst hi
    exact ⟨rfl, (execRxTimeout_inadmissible_iff s).1 h⟩
  · cases exec_refusesOnlyUnselected s hi _ h

/-! ### A CTRL write -/

theorem step_ctrl_write {s : State} {turns : List HostTurn} {w : Byte} (h : s.host = .write (.reg 0) w :: turns) :
    step s = exec (decodeCtrl w) (s.setHost turns) := by
  simp [step, fetch, hostFetch, isCtrl, runFetched, h]

/-- The ignored bits of a START have no part in its meaning (R35). -/
theorem exec_ctrlStart_ignored (v : Bool) (r r' : BitVec 6) (s : State) :
    exec (.ctrlStart v r) s = exec (.ctrlStart v r') s := rfl

theorem exec_ctrlCfg_ignored (v : Bool) (r r' : BitVec 6) (s : State) :
    exec (.ctrlCfg v r) s = exec (.ctrlCfg v r') s := rfl

/-- Settles O16: the step runs what the value decodes to, whose ignored bits are immaterial. -/
theorem ctrlWriteRunsStartOrCfg : Obligations.CtrlWriteRunsStartOrCfg := by
  intro s turns w any h
  rw [step_ctrl_write h, decodeCtrl]
  split
  · exact exec_ctrlStart_ignored ..
  · exact exec_ctrlCfg_ignored ..

/-! ### Little-endian assembly and the trim of a text field -/

theorem assemble_singleton {w : Nat} (b : Byte) : assemble w [b] = b.setWidth w := by
  simp [assemble]

/-- A byte below `n` assembled bits is appended to them (R9). -/
theorem assemble_cons {w n : Nat} {b : Byte} {bs : List Byte} {x : BitVec n} (h : assemble w bs = x.setWidth w) :
    assemble w (b :: bs) = (x ++ b).setWidth w := by
  refine BitVec.eq_of_getLsbD_eq fun i hi => ?_
  rw [assemble, h, BitVec.getLsbD_or, BitVec.getLsbD_shiftLeft, BitVec.getLsbD_setWidth, BitVec.getLsbD_setWidth,
    BitVec.getLsbD_setWidth, BitVec.getLsbD_append]
  by_cases h8 : i < 8
  · simp [h8, hi]
  · simp [h8, hi, BitVec.getLsbD_of_ge b i (by omega), show i - 8 < w by omega]

theorem assemble_one (b : Byte) : assemble 8 [b] = b :=
  (assemble_singleton b).trans (BitVec.setWidth_eq b)

theorem assemble_four (b0 b1 b2 b3 : Byte) : assemble 32 [b0, b1, b2, b3] = b3 ++ b2 ++ b1 ++ b0 :=
  (assemble_cons (assemble_cons (assemble_cons (assemble_singleton b3)))).trans (BitVec.setWidth_eq _)

theorem assemble_eight (b0 b1 b2 b3 b4 b5 b6 b7 : Byte) :
    assemble 64 [b0, b1, b2, b3, b4, b5, b6, b7] = b7 ++ b6 ++ b5 ++ b4 ++ b3 ++ b2 ++ b1 ++ b0 :=
  (assemble_cons (assemble_cons (assemble_cons (assemble_cons (assemble_cons (assemble_cons (assemble_cons
    (assemble_singleton b7)))))))).trans (BitVec.setWidth_eq _)

theorem asciiTrim_eq_takeWhile (bs : List Byte) : asciiTrim bs = bs.takeWhile (· != 0) := by
  induction bs with
  | nil => rfl
  | cons b bs ih =>
    rw [asciiTrim, List.takeWhile_cons, ih]
    by_cases h : b = 0 <;> simp [h]

/-! ### The getters on a readable frame (R163) -/

section Getters

variable {s : State} {f : Nat → Byte}

/-- A run of bytes inside the frame window reads as the frame's bytes. -/
theorem read_of_frameIs (hf : frameIs s f) {i n : Nat} (h : i + n ≤ s.frameLen.toNat) :
    s.buf.read i n = some ((List.range n).map fun k => f (i + k)) := by
  refine Memory.read_eq_some.2 ⟨by simp, fun k hk => ?_⟩
  have hkn : k < n := by simpa using hk
  rw [hf (i + k) (by omega), List.getElem_map, List.getElem_range]

variable {off : Nat}

theorem field_of_frameIs (hf : frameIs s f) (hl : frameLengths s) {n : Nat} (h : off + n ≤ s.blen.toNat) :
    s.field off n = .ok ((List.range n).map fun k => f (s.hlen.toNat + off + k)) := by
  have hin : s.hlen.toNat + off + n ≤ s.frameLen.toNat := by rw [hl]; omega
  exact State.field_ok hin (read_of_frameIs hf hin)

theorem getU8_of_frameIs (hf : frameIs s f) (hl : frameLengths s) (h : off + 1 ≤ s.blen.toNat) :
    s.getU8 off = .ok (f (s.hlen.toNat + off)) := by
  rw [State.getU8, field_of_frameIs hf hl h]
  exact congrArg Except.ok (assemble_one _)

theorem getF32_of_frameIs (hf : frameIs s f) (hl : frameLengths s) (h : off + 4 ≤ s.blen.toNat) :
    s.getF32 off = .ok (word32 f (s.hlen.toNat + off)) := by
  rw [State.getF32, field_of_frameIs hf hl h]
  exact congrArg Except.ok (assemble_four _ _ _ _)

theorem getI32_of_frameIs (hf : frameIs s f) (hl : frameLengths s) (h : off + 4 ≤ s.blen.toNat) :
    s.getI32 off = .ok (word32 f (s.hlen.toNat + off)).toInt := by
  rw [State.getI32, field_of_frameIs hf hl h]
  exact congrArg (Except.ok ·.toInt) (assemble_four _ _ _ _)

theorem getF64_of_frameIs (hf : frameIs s f) (hl : frameLengths s) (h : off + 8 ≤ s.blen.toNat) :
    s.getF64 off = .ok (word64 f (s.hlen.toNat + off)) := by
  rw [State.getF64, field_of_frameIs hf hl h]
  exact congrArg Except.ok (assemble_eight _ _ _ _ _ _ _ _)

theorem getAscii_of_frameIs (hf : frameIs s f) (hl : frameLengths s) {n : Nat} (h : off + n ≤ s.blen.toNat) :
    s.getAscii n off = .ok (text f (s.hlen.toNat + off) n) := by
  rw [State.getAscii, field_of_frameIs hf hl h]
  exact congrArg Except.ok (asciiTrim_eq_takeWhile _)

end Getters

/-! ### DEC.POS on a readable position frame -/

/-- DEC.POS, selected, writes the record that the frame decodes to (R170). -/
theorem execDecPos_of_messageType {s : State} (hst : s.st = .decode)
    (hmt : s.messageType = some s.cfg.msgidPosition) (hb : 72 ≤ s.blen.toNat) :
    execDecPos s = withDecoded s.positionRecord fun p => .next (s.setOutcome .position (.position p)) := by
  have hfits : s.posFits = true := decide_eq_true hb
  simp [execDecPos, hst, hmt, hfits]

/-- Settles O34: every getter of the position record is inside the frame and reads its field. -/
theorem positionRecordFields : Obligations.PositionRecordFields := by
  intro s f hst hf hl hmt hb
  have hmt' : s.messageType = some s.cfg.msgidPosition := hmt ▸ messageType_of_frameIs hf (by rw [hl]; omega)
  have hexec : exec .decPos s = _ := execDecPos_of_messageType hst hmt' hb
  simp (disch := omega) only [State.positionRecord, getI32_of_frameIs hf hl, getF32_of_frameIs hf hl,
    getF64_of_frameIs hf hl, getU8_of_frameIs hf hl, getAscii_of_frameIs hf hl, except_bind_ok] at hexec
  exact ⟨_, hexec, rfl, rfl, rfl, rfl, rfl, rfl, rfl, rfl, rfl, rfl, rfl, rfl, rfl, rfl, rfl, rfl, rfl, rfl, rfl, rfl,
    rfl, rfl, rfl⟩

end Sys2Proof.Machine

/-! SUPPORT. The proofs of the statements of spec/40_crc.md: a round of the transform is linear and loses nothing, and a
step is eight rounds of the accumulator XOR the byte. -/

namespace Sys2Proof.Machine

open Sys2Proof.Certificates

/-! ### Rounds of the transform (R101) -/

theorem crcRound_of_even {v : Word} (h : v.getLsbD 0 = false) : crcRound v = v >>> 1 :=
  if_neg (by rw [h]; decide)

theorem crcRound_of_odd {v : Word} (h : v.getLsbD 0 = true) : crcRound v = v >>> 1 ^^^ Config.crcPoly :=
  if_pos h

/-- A round is linear: two odd values meet in an even one, and their polynomials cancel. -/
theorem crcRound_xor (v w : Word) : crcRound (v ^^^ w) = crcRound v ^^^ crcRound w := by
  have hbit : (v ^^^ w).getLsbD 0 = (v.getLsbD 0 ^^ w.getLsbD 0) := BitVec.getLsbD_xor
  cases hv : v.getLsbD 0 <;> cases hw : w.getLsbD 0 <;> rw [hv, hw] at hbit
  case false.false =>
    rw [crcRound_of_even hbit, crcRound_of_even hv, crcRound_of_even hw, BitVec.ushiftRight_xor_distrib]
  case false.true =>
    rw [crcRound_of_odd hbit, crcRound_of_even hv, crcRound_of_odd hw, BitVec.ushiftRight_xor_distrib,
      BitVec.xor_assoc]
  case true.false =>
    rw [crcRound_of_odd hbit, crcRound_of_odd hv, crcRound_of_even hw, BitVec.ushiftRight_xor_distrib]
    ac_rfl
  case true.true =>
    rw [crcRound_of_even hbit, crcRound_of_odd hv, crcRound_of_odd hw, BitVec.ushiftRight_xor_distrib,
      BitVec.xor_comm (w >>> 1) Config.crcPoly, BitVec.xor_assoc, ← BitVec.xor_assoc Config.crcPoly, BitVec.xor_self,
      BitVec.zero_xor]

/-- Bit 31 of a round tells whether the polynomial was XORed in: the polynomial has it and a shifted word has not. -/
theorem crcRound_getLsbD_last (v : Word) : (crcRound v).getLsbD 31 = v.getLsbD 0 := by
  have hp : Config.crcPoly.getLsbD 31 = true := by decide
  have hs : (v >>> 1).getLsbD 31 = false := by rw [BitVec.getLsbD_ushiftRight, BitVec.getLsbD_of_ge v _ (by decide)]
  cases h : v.getLsbD 0
  · rw [crcRound_of_even h, hs]
  · rw [crcRound_of_odd h, BitVec.getLsbD_xor, hs, hp]; rfl

theorem crcRound_eq_zero {v : Word} : crcRound v = 0 ↔ v = 0 := by
  refine ⟨fun h => ?_, by rintro rfl; rfl⟩
  have h0 : v.getLsbD 0 = false := by rw [← crcRound_getLsbD_last, h]; rfl
  have hs : v >>> 1 = 0 := crcRound_of_even h0 ▸ h
  refine BitVec.eq_of_getLsbD_eq fun k _ => ?_
  cases k with
  | zero => exact h0
  | succ k => simpa [Nat.add_comm 1 k] using congrArg (BitVec.getLsbD · k) hs

theorem crcRounds_eq_iterate (n : Nat) (v : Word) : crcRounds n v = crcRound^[n] v := by
  induction n generalizing v with
  | zero => rfl
  | succ n ih => exact ih _

theorem crcRounds_add (m n : Nat) (v : Word) : crcRounds (m + n) v = crcRounds n (crcRounds m v) := by
  simp only [crcRounds_eq_iterate, Nat.add_comm m n, Function.iterate_add_apply]

theorem crcRounds_xor (n : Nat) (v w : Word) : crcRounds n (v ^^^ w) = crcRounds n v ^^^ crcRounds n w := by
  induction n generalizing v w with
  | zero => rfl
  | succ n ih => rw [crcRounds, crcRound_xor, ih]; rfl

theorem crcRounds_eq_zero {n : Nat} {v : Word} : crcRounds n v = 0 ↔ v = 0 := by
  induction n generalizing v with
  | zero => rfl
  | succ n ih => rw [crcRounds, ih, crcRound_eq_zero]

/-- Rounds that meet only zero bits shift and never XOR. -/
theorem crcRounds_of_low_zero {n : Nat} {v : Word} (h : ∀ k < n, v.getLsbD k = false) : crcRounds n v = v >>> n := by
  induction n generalizing v with
  | zero => exact (BitVec.ushiftRight_zero v).symm
  | succ n ih =>
    have hlow : ∀ k < n, (v >>> 1).getLsbD k = false := fun k hk => by
      rw [BitVec.getLsbD_ushiftRight]
      exact h (1 + k) (by omega)
    rw [crcRounds, crcRound_of_even (h 0 n.succ_pos), ih hlow, ← BitVec.shiftRight_add, Nat.add_comm 1 n]

theorem crcRounds_shiftLeft {n : Nat} {w : Word} (h : ∀ k, 32 ≤ k + n → w.getLsbD k = false) :
    crcRounds n (w <<< n) = w := by
  rw [crcRounds_of_low_zero fun k hk => by simp [hk]]
  refine BitVec.eq_of_getLsbD_eq fun k _ => ?_
  rw [BitVec.getLsbD_ushiftRight, BitVec.getLsbD_shiftLeft, Nat.add_sub_cancel_left]
  by_cases hk : n + k < 32
  · simp [hk]
  · simp [hk, h k (by omega)]

theorem crcTransform_xor (i j : Byte) : crcTransform (i ^^^ j) = crcTransform i ^^^ crcTransform j := by
  rw [crcTransform, BitVec.setWidth_xor, crcRounds_xor]; rfl

/-! ### A step as eight rounds (R102) -/

/-- The bits of the accumulator above its low byte only shift, so the step is the rounds of the whole register. -/
theorem crcStep_eq_crcRounds (a : Word) (b : Byte) : crcStep a b = crcRounds 8 (a ^^^ b.setWidth 32) := by
  have hsplit : a = (a >>> 8 <<< 8) ^^^ (a.setWidth 8).setWidth 32 := by
    refine BitVec.eq_of_getLsbD_eq fun k hk => ?_
    by_cases h8 : k < 8
    · simp [h8, hk]
    · simp [h8, hk, Nat.add_sub_cancel' (Nat.not_lt.1 h8)]
  have hhigh : crcRounds 8 (a >>> 8 <<< 8) = a >>> 8 := crcRounds_shiftLeft fun k hk => by
    rw [BitVec.getLsbD_ushiftRight, BitVec.getLsbD_of_ge a _ (by omega)]
  conv_rhs => rw [hsplit, BitVec.xor_assoc, ← BitVec.setWidth_xor, crcRounds_xor, hhigh]
  rfl

theorem crcStep_xor (a a' : Word) (b b' : Byte) :
    crcStep (a ^^^ a') (b ^^^ b') = crcStep a b ^^^ crcStep a' b' := by
  simp only [crcStep_eq_crcRounds, ← crcRounds_xor, BitVec.setWidth_xor]
  congr 1
  ac_rfl

@[simp] theorem crcStep_zero (b : Byte) : crcStep 0 b = crcTransform b := by
  simp [crcStep]

/-- A byte that enters after `n` rounds may enter before them, `n` bits higher up. -/
theorem crcStep_crcRounds {n : Nat} (hn : n ≤ 24) (v : Word) (b : Byte) :
    crcStep (crcRounds n v) b = crcRounds (n + 8) (v ^^^ b.setWidth 32 <<< n) := by
  have hb : crcRounds n (b.setWidth 32 <<< n) = b.setWidth 32 := crcRounds_shiftLeft fun k hk => by
    simp [BitVec.getLsbD_of_ge b k (by omega)]
  rw [crcStep_eq_crcRounds, crcRounds_add, crcRounds_xor n, hb]

theorem setWidth_append_byte {n : Nat} (x : BitVec n) (b : Byte) :
    (x ++ b).setWidth 32 = b.setWidth 32 ^^^ x.setWidth 32 <<< 8 := by
  refine BitVec.eq_of_getLsbD_eq fun k hk => ?_
  simp only [BitVec.getLsbD_setWidth, BitVec.getLsbD_append, BitVec.getLsbD_xor, BitVec.getLsbD_shiftLeft]
  by_cases h8 : k < 8
  · simp [h8, hk]
  · simp [h8, hk, show k - 8 < 32 by omega, BitVec.getLsbD_of_ge b k (by omega)]

theorem append_four_eq_xor (b0 b1 b2 b3 : Byte) :
    b3 ++ b2 ++ b1 ++ b0 =
      b0.setWidth 32 ^^^ (b1.setWidth 32 <<< 8 ^^^ (b2.setWidth 32 <<< 16 ^^^ b3.setWidth 32 <<< 24)) := by
  refine (BitVec.setWidth_eq _).symm.trans ?_
  simp only [setWidth_append_byte, BitVec.shiftLeft_xor_distrib, ← BitVec.shiftLeft_add, Nat.reduceAdd]

/-- Four bytes enter the register as one little-endian word. -/
theorem foldl_crcStep_four (a : Word) (b0 b1 b2 b3 : Byte) :
    [b0, b1, b2, b3].foldl crcStep a = crcRounds 32 (a ^^^ (b3 ++ b2 ++ b1 ++ b0)) := by
  have h0 : crcStep a b0 = crcRounds 8 (a ^^^ b0.setWidth 32) := crcStep_eq_crcRounds a b0
  simp only [List.foldl_cons, List.foldl_nil, h0, append_four_eq_xor]
  rw [crcStep_crcRounds (by decide), crcStep_crcRounds (by decide), crcStep_crcRounds (by decide)]
  simp only [BitVec.xor_assoc]

/-! ### The fold (R103) -/

theorem crc32_append (bs cs : List Byte) : crc32 (bs ++ cs) = cs.foldl crcStep (crc32 bs) :=
  List.foldl_append

theorem crc32_replicate_zero (k : Nat) : crc32 (List.replicate k 0) = 0 := by
  induction k with
  | zero => rfl
  | succ k ih => rw [List.replicate_succ', crc32_snoc, ih]; rfl

theorem foldl_crcStep_xor {l m : List Byte} (h : l.length = m.length) (a a' : Word) :
    (List.zipWith (· ^^^ ·) l m).foldl crcStep (a ^^^ a') = l.foldl crcStep a ^^^ m.foldl crcStep a' := by
  induction l generalizing m a a' with
  | nil =>
    obtain rfl := List.eq_nil_of_length_eq_zero h.symm
    rfl
  | cons b l ih =>
    cases m with
    | nil => cases h
    | cons c m =>
      rw [List.zipWith_cons_cons, List.foldl_cons, crcStep_xor]
      exact ih (Nat.succ.inj h) _ _

/-- The four bytes of a word, the highest first, are the word. -/
theorem extractLsb'_bytes_append (t : Word) :
    t.extractLsb' 24 8 ++ t.extractLsb' 16 8 ++ t.extractLsb' 8 8 ++ t.extractLsb' 0 8 = t := by
  have hjoin (i n : Nat) : t.extractLsb' (i + 8) n ++ t.extractLsb' i 8 = t.extractLsb' i (n + 8) :=
    BitVec.extractLsb'_append_extractLsb'_eq_extractLsb' rfl
  rw [hjoin 16, hjoin 8, hjoin 0]
  exact BitVec.extractLsb'_eq_self

/-! ### The statements -/

/-- Settles O1: the rounds are the iterate, and each is linear. -/
theorem crcXformIsLinear : Obligations.CrcXformIsLinear := by
  intro a b s
  have hexec : exec (.crcXform (a ^^^ b)) s = .next (s.setResult (.word (crcTransform (a ^^^ b)))) := rfl
  exact ⟨by rw [hexec, crcTransform_xor]; rfl, crcRounds_eq_iterate 8 _, rfl, by decide⟩

/-- Settles O2: CRC.STEP is the model's step, whose shift brings zeros in from above. -/
theorem crcStepWritesAccumulator : Obligations.CrcStepWritesAccumulator := by
  intro a b s
  refine ⟨crcStep a b, rfl, ?_, fun k hk => ?_⟩
  · rw [crcStep, BitVec.setWidth_eq_extractLsb' (by decide)]
  · rw [BitVec.getLsbD_ushiftRight]
    exact BitVec.getLsbD_of_ge a (8 + k) (by omega)

/-- Settles O3: the fold from 0 of a step that is linear and keeps 0 at 0. -/
theorem crc32IsLinearFold : Obligations.Crc32IsLinearFold :=
  ⟨crc32_nil, crc32_snoc, fun k bs => by rw [crc32_append, crc32_replicate_zero]; rfl,
    fun _ _ h => foldl_crcStep_xor h 0 0, by decide⟩

/-- Settles O4: the four bytes leave the rounds of checksum XOR trailer, and rounds are zero only of zero. -/
theorem residueIsZeroExactlyForTheChecksum : Obligations.ResidueIsZeroExactlyForTheChecksum := by
  intro bs t
  rw [crc32_append, le32bytes, foldl_crcStep_four, extractLsb'_bytes_append, crcRounds_eq_zero]
  exact BitVec.xor_eq_zero_iff.trans eq_comm

/-- Settles O5: both registers hold the same rounds once four bytes are in, and the rest runs alike. -/
theorem ieeeConventionsDifferByFourBytes : Obligations.IeeeConventionsDifferByFourBytes := by
  intro b0 b1 b2 b3 rest
  have hword : (b3 ^^^ 0xFF) ++ (b2 ^^^ 0xFF) ++ (b1 ^^^ 0xFF) ++ (b0 ^^^ 0xFF) =
      (b3 ++ b2 ++ b1 ++ b0) ^^^ (0xFFFFFFFF : Word) := by
    simp only [← BitVec.xor_append]
    rfl
  have hfour : [b0, b1, b2, b3].foldl crcStep 0xFFFFFFFF =
      crc32 [b0 ^^^ 0xFF, b1 ^^^ 0xFF, b2 ^^^ 0xFF, b3 ^^^ 0xFF] := by
    rw [crc32, foldl_crcStep_four, foldl_crcStep_four, hword]
    simp [Config.crcInit, BitVec.xor_comm]
  exact congrArg (rest.foldl crcStep · ^^^ 0xFFFFFFFF) hfour

/-- Settles O6: the block is the fold's last step, and a step from 0 is the transform of its byte. -/
theorem crcBlockInitCheckComplete : Obligations.CrcBlockInitCheckComplete := by
  intro s bs b t a
  have hblock : exec (.crcBlock (bs ++ [b])) s = .next (s.setResult (.word (crc32 (bs ++ [b])))) := rfl
  have hinit (c : Byte) : exec (.crcInit c) s = .next (s.setAcc (crcTransform c)) := by
    rw [← crcStep_zero]
    rfl
  have hsync : crcTransform 0xAA = 0x36034AF6 := by decide
  exact ⟨by rw [hblock, crc32_snoc]; rfl, rfl, hinit b, by rw [hinit, hsync]; rfl, _, rfl, decide_eq_true_iff⟩

end Sys2Proof.Machine

/-! SUPPORT. The proofs of the statements of spec/41_frame_scanner.md: what each scanner operation does where it is
selected, that every data byte selects one, the search for the preamble, and the scan of one frame. -/

namespace Sys2Proof.Machine

open Sys2Proof.Certificates

/-! ### The frame buffer -/

theorem writtenAt_write (m : Memory) (a : Nat) (b : Byte) : writtenAt m (m.write a b) a b :=
  fun x => Memory.byte?_write m a x b

/-- In the canonical form an index below every listed one is not listed. -/
theorem Memory.byte?_of_forall_lt {m : Memory} {a : Nat} (h : ∀ c ∈ m, a < c.1) : m.byte? a = none := by
  induction m with
  | nil => rfl
  | cons c rest ih =>
    obtain ⟨hc, hrest⟩ := List.forall_mem_cons.1 h
    rw [byte?_cons, if_neg hc.ne', ih hrest]

/-- Writing the byte that already stands at an index changes nothing. -/
theorem Memory.write_of_byte? {m : Memory} {a : Nat} {b : Byte} (hm : m.Pairwise fun x y => x.1 < y.1)
    (h : m.byte? a = some b) : m.write a b = m := by
  induction m with
  | nil => cases h
  | cons c rest ih =>
    obtain ⟨k, v⟩ := c
    obtain ⟨hk, hrest⟩ := List.pairwise_cons.1 hm
    rw [byte?_cons] at h
    rcases Nat.lt_trichotomy a k with hlt | rfl | hgt
    · have hnone := byte?_of_forall_lt fun c hc => hlt.trans (hk c hc)
      rw [if_neg hlt.ne', hnone] at h
      cases h
    · rw [if_pos rfl] at h
      cases h
      rw [write, if_neg (Nat.lt_irrefl a), if_pos rfl]
    · rw [if_neg hgt.ne] at h
      rw [write, if_neg hgt.asymm, if_neg hgt.ne', ih hrest h]

theorem Memory.le16_of_bytes {m : Memory} {i : Nat} {lo hi : Byte} (hlo : m.byte? i = some lo)
    (hhi : m.byte? (i + 1) = some hi) : m.le16 i = some (hi ++ lo) := by
  simp [le16, read_succ, read_zero, hlo, hhi, assemble_two]

theorem State.holds.byte? {s : State} {bs : List Byte} (h : s.holds bs) {k : Nat} {v : Byte} (hk : bs[k]? = some v) :
    s.buf.byte? k = some v := by
  obtain ⟨hlt, rfl⟩ := List.getElem?_eq_some_iff.1 hk
  simpa using (Memory.read_eq_some.1 h.1).2 k hlt

/-- The rows' conditions keep the index inside the buffer: `hlen + blen <= 65790` (R134, R136). -/
theorem State.idx_lt_frameMax {s : State} (h : s.idx.toNat + 1 ≤ s.hlen.toNat + s.blen.toNat) :
    s.idx.toNat < Config.frameMax := by
  have hhlen := s.hlen.isLt
  have hblen := s.blen.isLt
  have hmax : Config.frameMax = 65790 := rfl
  omega

/-! ### Each operation where it is selected (R124 to R142) -/

section Selected

variable {s : State} {b : Byte}

theorem whenSelected_of {c : Bool} (hc : c = true) (o : Result) : whenSelected c o = o := if_pos hc

/-- A row that is selected and stores its byte inside the buffer goes on with the byte stored. -/
theorem whenSelected_withStored {c : Bool} {k : State → Result} (hc : c = true) (hi : s.idx.toNat < Config.frameMax) :
    whenSelected c (withStored s b k) = k (s.store b) := by
  rw [whenSelected_of hc, withStored_of_lt b k hi]

theorem exec_sync1Skip (hst : s.st = .wantSync1) (hb : b ≠ Config.sync1) : exec (.sync1Skip b) s = .next s :=
  whenSelected_of (by simp [hst, bne_iff_ne.2 hb]) _

theorem exec_sync1Match (hst : s.st = .wantSync1) : exec .sync1Match s = .next (s.anchor Config.sync1) :=
  whenSelected_of (by simp [hst]) _

theorem exec_sync2Reanchor (hst : s.st = .wantSync2) : exec .sync2Reanchor s = .next (s.anchor Config.sync1) :=
  whenSelected_of (by simp [hst]) _

theorem exec_sync3Reanchor (hst : s.st = .wantSync3) : exec .sync3Reanchor s = .next (s.anchor Config.sync1) :=
  whenSelected_of (by simp [hst]) _

theorem exec_sync2Match (hst : s.st = .wantSync2) (hi : s.idx.toNat < Config.frameMax) :
    exec .sync2Match s = .next ((s.store Config.sync2).goto .wantSync3) :=
  whenSelected_withStored (by simp [hst]) hi

theorem exec_sync3Match (hst : s.st = .wantSync3) (hi : s.idx.toNat < Config.frameMax) :
    exec .sync3Match s = .next ((s.store Config.sync3).goto .wantHeaderLen) :=
  whenSelected_withStored (by simp [hst]) hi

theorem exec_sync2Reset (hst : s.st = .wantSync2) (h2 : b ≠ Config.sync2) (h1 : b ≠ Config.sync1) :
    exec (.sync2Reset b) s = .next s.drop :=
  whenSelected_of (by simp [hst, bne_iff_ne.2 h2, bne_iff_ne.2 h1]) _

theorem exec_sync3Reset (hst : s.st = .wantSync3) (h3 : b ≠ Config.sync3) (h1 : b ≠ Config.sync1) :
    exec (.sync3Reset b) s = .next s.drop :=
  whenSelected_of (by simp [hst, bne_iff_ne.2 h3, bne_iff_ne.2 h1]) _

theorem exec_hlenAccept (hst : s.st = .wantHeaderLen) (hb : Config.hdrMin ≤ b.toNat)
    (hi : s.idx.toNat < Config.frameMax) :
    exec (.hlenAccept b) s = .next { s.store b with hlen := b, st := .headerRest } :=
  whenSelected_withStored (by simp [hst, hb]) hi

theorem exec_hlenReject (hst : s.st = .wantHeaderLen) (hb : b.toNat < Config.hdrMin) :
    exec (.hlenReject b) s = .next s.drop :=
  whenSelected_of (by simp [hst, hb]) _

theorem exec_hdrByte (hst : s.st = .headerRest) (hlt : s.idx.toNat + 1 < s.hlen.toNat) :
    exec (.hdrByte b) s = .next (s.store b) :=
  whenSelected_withStored (by simp [hst, hlt]) (State.idx_lt_frameMax (by omega))

theorem exec_hdrLast (hst : s.st = .headerRest) (hlast : s.idx.toNat + 1 = s.hlen.toNat) {bl : BitVec 16}
    (hbl : (s.store b).buf.le16 8 = some bl) : exec (.hdrLast b) s =
      .next { s.store b with blen := bl, st := if 0 < bl.toNat then .body else .trailer } := by
  refine (whenSelected_withStored (by simp [hst, hlast]) (State.idx_lt_frameMax (by omega))).trans ?_
  rw [hbl, withValue_some]

theorem exec_bodyByte (hst : s.st = .body) (hlt : s.idx.toNat + 1 < s.hlen.toNat + s.blen.toNat) :
    exec (.bodyByte b) s = .next (s.store b) :=
  whenSelected_withStored (by simp [hst, hlt]) (State.idx_lt_frameMax hlt.le)

theorem exec_bodyLast (hst : s.st = .body) (hlast : s.idx.toNat + 1 = s.hlen.toNat + s.blen.toNat) :
    exec (.bodyLast b) s = .next ((s.store b).goto .trailer) :=
  whenSelected_withStored (by simp [hst, hlast]) (State.idx_lt_frameMax hlast.le)

theorem exec_trlByte (hst : s.st = .trailer) (hlt : s.tcnt.toNat < 3) : exec (.trlByte b) s =
    .next { s with trl := s.trl ||| (b.setWidth 32 <<< (8 * s.tcnt.toNat)), tcnt := s.tcnt + 1 } :=
  whenSelected_of (by simp [hst, hlt]) _

theorem exec_trlAccept (hst : s.st = .trailer) (hcnt : s.tcnt.toNat = 3) (hcrc : fullTrailer s.trl b = s.acc) :
    exec (.trlAccept b) s = .next { s with trl := s.acc, tcnt := 4, frameLen := s.idx, st := .decode } :=
  (whenSelected_of (by simp [hst, hcnt, hcrc]) _).trans (by rw [hcrc])

theorem exec_trlMismatch (hst : s.st = .trailer) (hcnt : s.tcnt.toNat = 3) (hcrc : fullTrailer s.trl b ≠ s.acc) :
    exec (.trlMismatch b) s = .next s.drop :=
  whenSelected_of (by simp [hst, hcnt, hcrc]) _

theorem exec_rxTimeout (hr : isReading s.st = true) (ht : s.tmoEn = true) :
    exec .rxTimeout s = .next (s.endScan .timeout) :=
  (whenSelected_of hr _).trans (if_pos ht)

theorem exec_rxError (hr : isReading s.st = true) : exec .rxError s = .next (s.endScan .transport) :=
  whenSelected_of hr _

end Selected

/-- What ANCHOR writes when the byte is sync byte 1 (R122, R125). -/
theorem State.anchor_sync1 (s : State) : s.anchor Config.sync1 =
    { s with
      buf := s.buf.write 0 0xAA, idx := 1, acc := 0x36034AF6, hlen := 0, blen := 0, trl := 0, tcnt := 0,
      st := .wantSync2 } := by
  have hacc : crcStep Config.crcInit Config.sync1 = 0x36034AF6 := by decide
  rw [State.anchor, hacc]
  rfl

/-! ### The statements about single operations -/

/-- Settles O19: each of the three rows is ANCHOR. -/
theorem syncByteOneAnchors : Obligations.SyncByteOneAnchors := by
  intro s i h
  refine ⟨_, writtenAt_write _ _ _, ?_⟩
  rw [← State.anchor_sync1]
  rcases h with ⟨rfl, hst⟩ | ⟨rfl, hst⟩ | ⟨rfl, hst⟩
  · exact exec_sync1Match hst
  · exact exec_sync2Reanchor hst
  · exact exec_sync3Reanchor hst

/-- Settles O21. -/
theorem syncMatchesStoreAndAdvance : Obligations.SyncMatchesStoreAndAdvance :=
  fun _ hi => ⟨fun hst => ⟨_, writtenAt_write _ _ _, exec_sync2Match hst hi⟩,
    fun hst => ⟨_, writtenAt_write _ _ _, exec_sync3Match hst hi⟩⟩

/-- Settles O22. -/
theorem headerLengthIsLatched : Obligations.HeaderLengthIsLatched :=
  fun _ _ hst hb hi => ⟨_, writtenAt_write _ _ _, exec_hlenAccept hst hb hi⟩

/-- Settles O23: the rows' conditions keep the store inside the buffer. -/
theorem headerAndBodyBytesAreStored : Obligations.HeaderAndBodyBytesAreStored :=
  fun _ _ => ⟨fun hst hlt => ⟨_, writtenAt_write _ _ _, exec_hdrByte hst hlt⟩,
    fun hst hlt => ⟨_, writtenAt_write _ _ _, exec_bodyByte hst hlt⟩,
    fun hst hlast => ⟨_, writtenAt_write _ _ _, exec_bodyLast hst hlast⟩⟩

/-- Settles O24: bytes 8 and 9 are readable after the store, and their value decides between BODY and TRAILER. -/
theorem lastHeaderByteLatchesBodyLength : Obligations.LastHeaderByteLatchesBodyLength := by
  intro s b hst h10 hlast hread
  have hbyte (a : Nat) (ha : a ≤ s.idx.toNat) : ∃ v, (s.buf.write s.idx.toNat b).byte? a = some v := by
    rcases ha.lt_or_eq with hlt | rfl
    · rw [Memory.byte?_write_of_ne _ _ hlt.ne]
      exact hread a hlt
    · exact ⟨b, Memory.byte?_write_self _ _ _⟩
  obtain ⟨lo, hlo⟩ := hbyte 8 (by omega)
  obtain ⟨hi, hhi⟩ := hbyte 9 (by omega)
  refine ⟨_, lo, hi, writtenAt_write _ _ _, hlo, hhi, ?_⟩
  rw [exec_hdrLast hst hlast (Memory.le16_of_bytes hlo hhi)]
  have hnext : (if 0 < (hi ++ lo : BitVec 16).toNat then ScanState.body else .trailer) =
      if (hi ++ lo : BitVec 16) = 0 then .trailer else .body := by
    by_cases h0 : (hi ++ lo : BitVec 16) = 0
    · rw [h0]; rfl
    · rw [if_neg h0, if_pos (by bv_omega)]
  rw [hnext]
  rfl

/-- Settles O25: the shifted byte bit by bit; the shift leaves it inside the 32 bits. -/
theorem trailerBytesAreAssembled : Obligations.TrailerBytesAreAssembled := by
  intro s b hst hlt
  refine ⟨_, exec_trlByte hst hlt, fun j => ?_⟩
  rw [BitVec.getLsbD_or, BitVec.getLsbD_shiftLeft, BitVec.getLsbD_setWidth]
  by_cases hj : j < 32
  · by_cases hlow : j < 8 * s.tcnt.toNat
    · simp [hlow, Nat.not_le.2 hlow]
    · simp [hj, hlow, Nat.not_lt.1 hlow, show j - 8 * s.tcnt.toNat < 32 by omega]
  · simp [hj, BitVec.getLsbD_of_ge b (j - 8 * s.tcnt.toNat) (by omega)]

/-- Settles O26: in a run the candidate's length is in the invariant of TRAILER. -/
theorem matchingTrailerAcceptsTheFrame : Obligations.MatchingTrailerAcceptsTheFrame := by
  refine fun s b hst hcnt hcrc => ⟨exec_trlAccept hst hcnt hcrc, fun ⟨_, hc, _⟩ => ?_⟩
  simp only [State.candidateInv, hst] at hc
  obtain ⟨bs, hh, -, -, hlen, -⟩ := hc
  exact hh.idx_toNat.trans hlen

/-- Settles O27: each of the four rows is DROP. -/
theorem rejectionsDropTheCandidate : Obligations.RejectionsDropTheCandidate :=
  fun _ _ => ⟨exec_sync2Reset, exec_sync3Reset, exec_hlenReject, exec_trlMismatch⟩

/-- Settles O28: both rows are the shared end of a scan. -/
theorem timeoutAndErrorEndTheScan : Obligations.TimeoutAndErrorEndTheScan :=
  fun _ hr => ⟨exec_rxTimeout hr, exec_rxError hr⟩

/-- Settles O30: the two sides of `st = IDLE`. -/
theorem startBeginsAScanOrRecordsAFault : Obligations.StartBeginsAScanOrRecordsAFault :=
  fun _ _ _ => ⟨fun hst => if_pos hst, fun hst => if_neg hst⟩

/-- Settles O31: CTRL.CFG is the write of CTRL.TMO_EN. -/
theorem cfgWritesTimeoutEnableOnly : Obligations.CfgWritesTimeoutEnableOnly := fun _ _ _ => rfl

end Sys2Proof.Machine

/-! SUPPORT. The proofs of the statements of spec/41_frame_scanner.md about one step: what the core's turn runs, that in
a run every data byte selects one row and every step but an inadmissible Timeout has a next state, and how a scan
ends. -/

namespace Sys2Proof.Machine

open Sys2Proof.Certificates

/-! ### The core's turn (R121, R123) -/

theorem step_coreTurn {s : State} {turns : List HostTurn} (h : s.host = .pass :: turns ∨ s.host = [] ∧ turns = []) :
    step s = runFetched (coreFetch (s.setHost turns)) := by
  rcases h with h | ⟨h, rfl⟩
  · exact step_pass h
  · have hself : s.setHost [] = s := by rw [← h]; rfl
    rw [hself, step_core h]

theorem coreFetch_answer {s : State} {r : Response} {rest : List Response} {i : Instr} (hr : isReading s.st = true)
    (hs : s.stream = r :: rest) (hi : decodeResponse s.conds (selectorOf r s.st) = .ok i) :
    coreFetch s = .run i (s.setStream rest) := by
  have hst : s.st ≠ .decode := fun h => by simp [h, isReading] at hr
  simp [coreFetch, hst, hr, hs, decode, hi]

theorem coreFetch_decode {s : State} (h : s.st = .decode) : coreFetch s = .run .decStep s := if_pos h

theorem coreFetch_hold {s : State} (h : s.st = .idle ∨ isReading s.st = true ∧ s.stream = []) :
    coreFetch s = .done (.next s) := by
  rcases h with h | ⟨hr, hs⟩
  · simp [coreFetch, h, isReading]
  · have hst : s.st ≠ .decode := fun h => by simp [h, isReading] at hr
    simp [coreFetch, hst, hr, hs]

/-- Settles O15: the answer selects the operation, and DECODE the decode step. -/
theorem stepRunsTheSelectedOperation : Obligations.StepRunsTheSelectedOperation := by
  refine fun s turns h => ⟨fun r rest i hr hs hi => ?_, fun hst => ?_⟩
  · rw [step_coreTurn h, coreFetch_answer (s := s.setHost turns) hr hs hi]
    rfl
  · rw [step_coreTurn h, coreFetch_decode (s := s.setHost turns) hst]
    rfl

/-- Settles O17: the core's turn is a hold. -/
theorem coreHoldsUntilAnAnswer : Obligations.CoreHoldsUntilAnAnswer := by
  intro s turns h hhold
  rw [step_coreTurn h, coreFetch_hold (s := s.setHost turns) hhold]
  rfl

/-! ### Taking a data byte -/

/-- The row that the data byte `b` selects in `s` answers `u` (R88, R123). -/
def State.takes (s : State) (b : Byte) (u : State) : Prop :=
  ∃ i, decodeData s.conds s.st b = .ok i ∧ exec i s = .next u

section Takes

variable {s u : State} {b : Byte}

/-- A data response outside the reading states selects nothing. -/
theorem isReading_of_decodeData {c : Conds} {st : ScanState} {i : Instr} (h : decodeData c st b = .ok i) :
    isReading st = true := by
  cases st
  case idle | decode => cases h
  all_goals rfl

/-- The core's turn on a data byte is the byte's row on the state from which it has been taken. -/
theorem coreFetch_of_takes {rest : List Response} (hs : s.stream = .data b :: rest)
    (h : (s.setStream rest).takes b u) : runFetched (coreFetch s) = .next u := by
  obtain ⟨i, hd, hx⟩ := h
  have hr : isReading s.st = true := isReading_of_decodeData hd
  rw [coreFetch_answer hr hs ((decodeResponse_data _ _ _).trans hd)]
  exact hx

theorem step_of_takes {rest : List Response} (hh : s.host = []) (hs : s.stream = .data b :: rest)
    (h : (s.setStream rest).takes b u) : step s = .next u :=
  (step_core hh).trans (coreFetch_of_takes hs h)

/-- The row whose data word, byte and register conditions hold is the one taken. -/
theorem takes_of_row (i : Instr) (he : encode i = some (.response (selectorOf (.data b) s.st)))
    (hwf : i.wellFormed = true) (hrow : rowCondition s.conds i = true) (hx : exec i s = .next u) : s.takes b u :=
  ⟨i, decodeData_of_encode he hwf hrow, hx⟩

theorem takes_sync1Skip (hst : s.st = .wantSync1) (hb : b ≠ Config.sync1) : s.takes b s :=
  takes_of_row (.sync1Skip b) (by rw [hst]; rfl) (bne_iff_ne.2 hb) rfl (exec_sync1Skip hst hb)

/-- Sync byte 1 opens a new candidate in each sync state (R125, R127, R130). -/
theorem takes_anchor (hst : s.st = .wantSync1 ∨ s.st = .wantSync2 ∨ s.st = .wantSync3) :
    s.takes Config.sync1 (s.anchor Config.sync1) := by
  rcases hst with hst | hst | hst
  · exact takes_of_row .sync1Match (by rw [hst]; rfl) rfl rfl (exec_sync1Match hst)
  · exact takes_of_row .sync2Reanchor (by rw [hst]; rfl) rfl rfl (exec_sync2Reanchor hst)
  · exact takes_of_row .sync3Reanchor (by rw [hst]; rfl) rfl rfl (exec_sync3Reanchor hst)

theorem takes_sync2Match (hst : s.st = .wantSync2) (hi : s.idx.toNat < Config.frameMax) :
    s.takes Config.sync2 ((s.store Config.sync2).goto .wantSync3) :=
  takes_of_row .sync2Match (by rw [hst]; rfl) rfl rfl (exec_sync2Match hst hi)

theorem takes_sync2Reset (hst : s.st = .wantSync2) (h2 : b ≠ Config.sync2) (h1 : b ≠ Config.sync1) :
    s.takes b s.drop :=
  takes_of_row (.sync2Reset b) (by rw [hst]; rfl) (by simp [Instr.wellFormed, h2, h1]) rfl (exec_sync2Reset hst h2 h1)

theorem takes_sync3Match (hst : s.st = .wantSync3) (hi : s.idx.toNat < Config.frameMax) :
    s.takes Config.sync3 ((s.store Config.sync3).goto .wantHeaderLen) :=
  takes_of_row .sync3Match (by rw [hst]; rfl) rfl rfl (exec_sync3Match hst hi)

theorem takes_sync3Reset (hst : s.st = .wantSync3) (h3 : b ≠ Config.sync3) (h1 : b ≠ Config.sync1) :
    s.takes b s.drop :=
  takes_of_row (.sync3Reset b) (by rw [hst]; rfl) (by simp [Instr.wellFormed, h3, h1]) rfl (exec_sync3Reset hst h3 h1)

theorem takes_hlenAccept (hst : s.st = .wantHeaderLen) (hb : Config.hdrMin ≤ b.toNat)
    (hi : s.idx.toNat < Config.frameMax) : s.takes b { s.store b with hlen := b, st := .headerRest } :=
  takes_of_row (.hlenAccept b) (by rw [hst]; rfl) (decide_eq_true hb) rfl (exec_hlenAccept hst hb hi)

theorem takes_hlenReject (hst : s.st = .wantHeaderLen) (hb : b.toNat < Config.hdrMin) : s.takes b s.drop :=
  takes_of_row (.hlenReject b) (by rw [hst]; rfl) (decide_eq_true hb) rfl (exec_hlenReject hst hb)

theorem takes_hdrByte (hst : s.st = .headerRest) (hlt : s.idx.toNat + 1 < s.hlen.toNat) : s.takes b (s.store b) :=
  takes_of_row (.hdrByte b) (by rw [hst]; rfl) rfl (decide_eq_true hlt) (exec_hdrByte hst hlt)

theorem takes_hdrLast (hst : s.st = .headerRest) (hlast : s.idx.toNat + 1 = s.hlen.toNat) {bl : BitVec 16}
    (hbl : (s.store b).buf.le16 8 = some bl) :
    s.takes b { s.store b with blen := bl, st := if 0 < bl.toNat then .body else .trailer } :=
  takes_of_row (.hdrLast b) (by rw [hst]; rfl) rfl (decide_eq_true hlast) (exec_hdrLast hst hlast hbl)

theorem takes_bodyByte (hst : s.st = .body) (hlt : s.idx.toNat + 1 < s.hlen.toNat + s.blen.toNat) :
    s.takes b (s.store b) :=
  takes_of_row (.bodyByte b) (by rw [hst]; rfl) rfl (decide_eq_true hlt) (exec_bodyByte hst hlt)

theorem takes_bodyLast (hst : s.st = .body) (hlast : s.idx.toNat + 1 = s.hlen.toNat + s.blen.toNat) :
    s.takes b ((s.store b).goto .trailer) :=
  takes_of_row (.bodyLast b) (by rw [hst]; rfl) rfl (decide_eq_true hlast) (exec_bodyLast hst hlast)

theorem takes_trlByte (hst : s.st = .trailer) (hlt : s.tcnt.toNat < 3) : s.takes b
    { s with trl := s.trl ||| (b.setWidth 32 <<< (8 * s.tcnt.toNat)), tcnt := s.tcnt + 1 } :=
  takes_of_row (.trlByte b) (by rw [hst]; rfl) rfl (decide_eq_true hlt) (exec_trlByte hst hlt)

theorem takes_trlAccept (hst : s.st = .trailer) (hcnt : s.tcnt.toNat = 3) (hcrc : fullTrailer s.trl b = s.acc) :
    s.takes b { s with trl := s.acc, tcnt := 4, frameLen := s.idx, st := .decode } :=
  takes_of_row (.trlAccept b) (by rw [hst]; rfl) rfl (by simp [rowCondition, State.conds, hcnt, hcrc])
    (exec_trlAccept hst hcnt hcrc)

theorem takes_trlMismatch (hst : s.st = .trailer) (hcnt : s.tcnt.toNat = 3) (hcrc : fullTrailer s.trl b ≠ s.acc) :
    s.takes b s.drop :=
  takes_of_row (.trlMismatch b) (by rw [hst]; rfl) rfl (by simp [rowCondition, State.conds, hcnt, hcrc])
    (exec_trlMismatch hst hcnt hcrc)

end Takes

/-! ### In a run every data byte is taken -/

theorem State.holds.idx_lt_frameMax {s : State} {bs : List Byte} (h : s.holds bs) (hlen : bs.length < 10) :
    s.idx.toNat < Config.frameMax := by
  have hmax : Config.frameMax = 65790 := rfl
  rw [h.idx_toNat]
  omega

theorem idx_lt_frameMax_of_sync {s : State} (hst : s.st = .wantSync2 ∨ s.st = .wantSync3 ∨ s.st = .wantHeaderLen)
    (hc : s.candidateInv) : s.idx.toNat < Config.frameMax := by
  rcases hst with hst | hst | hst <;> simp only [State.candidateInv, hst] at hc <;>
    exact hc.1.idx_lt_frameMax (by decide)

theorem exists_takes_sync2 {s : State} (hst : s.st = .wantSync2) (hc : s.candidateInv) (b : Byte) :
    ∃ u, s.takes b u := by
  have hi := idx_lt_frameMax_of_sync (.inl hst) hc
  by_cases h2 : b = Config.sync2
  · exact ⟨_, h2 ▸ takes_sync2Match hst hi⟩
  by_cases h1 : b = Config.sync1
  · exact ⟨_, h1 ▸ takes_anchor (.inr (.inl hst))⟩
  · exact ⟨_, takes_sync2Reset hst h2 h1⟩

theorem exists_takes_sync3 {s : State} (hst : s.st = .wantSync3) (hc : s.candidateInv) (b : Byte) :
    ∃ u, s.takes b u := by
  have hi := idx_lt_frameMax_of_sync (.inr (.inl hst)) hc
  by_cases h3 : b = Config.sync3
  · exact ⟨_, h3 ▸ takes_sync3Match hst hi⟩
  by_cases h1 : b = Config.sync1
  · exact ⟨_, h1 ▸ takes_anchor (.inr (.inr hst))⟩
  · exact ⟨_, takes_sync3Reset hst h3 h1⟩

theorem exists_takes_headerLen {s : State} (hst : s.st = .wantHeaderLen) (hc : s.candidateInv) (b : Byte) :
    ∃ u, s.takes b u := by
  by_cases hb : Config.hdrMin ≤ b.toNat
  · exact ⟨_, takes_hlenAccept hst hb (idx_lt_frameMax_of_sync (.inr (.inr hst)) hc)⟩
  · exact ⟨_, takes_hlenReject hst (Nat.not_le.1 hb)⟩

/-- At the last byte of the header the body length is readable: the header has at least ten bytes. -/
theorem exists_takes_header {s : State} (hst : s.st = .headerRest) (hc : s.candidateInv) (b : Byte) :
    ∃ u, s.takes b u := by
  simp only [State.candidateInv, hst] at hc
  obtain ⟨bs, hh, ⟨hmin, -⟩, -, hlt, -⟩ := hc
  have hidx := hh.idx_toNat
  have h10 : 10 ≤ s.hlen.toNat := hmin
  by_cases hlast : s.idx.toNat + 1 = s.hlen.toNat
  · obtain ⟨hread, -, -⟩ := State.holds_store b hh (State.idx_lt_frameMax (by omega))
    exact ⟨_, takes_hdrLast hst hlast (Memory.le16_of_read (j := 8) hread (by simp; omega))⟩
  · exact ⟨_, takes_hdrByte hst (by omega)⟩

theorem exists_takes_body {s : State} (hst : s.st = .body) (hc : s.candidateInv) (b : Byte) : ∃ u, s.takes b u := by
  simp only [State.candidateInv, hst] at hc
  obtain ⟨bs, hh, -, -, -, hlt, -⟩ := hc
  have hidx := hh.idx_toNat
  by_cases hlast : s.idx.toNat + 1 = s.hlen.toNat + s.blen.toNat
  · exact ⟨_, takes_bodyLast hst hlast⟩
  · exact ⟨_, takes_bodyByte hst (by omega)⟩

theorem exists_takes_trailer {s : State} (hst : s.st = .trailer) (hc : s.candidateInv) (b : Byte) :
    ∃ u, s.takes b u := by
  simp only [State.candidateInv, hst] at hc
  obtain ⟨bs, -, -, -, -, hle, -⟩ := hc
  by_cases hcnt : s.tcnt.toNat = 3
  · by_cases hcrc : fullTrailer s.trl b = s.acc
    · exact ⟨_, takes_trlAccept hst hcnt hcrc⟩
    · exact ⟨_, takes_trlMismatch hst hcnt hcrc⟩
  · exact ⟨_, takes_trlByte hst (by omega)⟩

/-- In every reading state of a run a data byte selects a row, and the row answers a next state (R123). -/
theorem exists_takes {s : State} (hr : isReading s.st = true) (hc : s.candidateInv) (b : Byte) : ∃ u, s.takes b u := by
  cases hst : s.st
  case idle | decode => simp [hst, isReading] at hr
  case wantSync1 =>
    by_cases h1 : b = Config.sync1
    · exact ⟨_, h1 ▸ takes_anchor (.inl hst)⟩
    · exact ⟨_, takes_sync1Skip hst h1⟩
  case wantSync2 => exact exists_takes_sync2 hst hc b
  case wantSync3 => exact exists_takes_sync3 hst hc b
  case wantHeaderLen => exact exists_takes_headerLen hst hc b
  case headerRest => exact exists_takes_header hst hc b
  case body => exact exists_takes_body hst hc b
  case trailer => exact exists_takes_trailer hst hc b

/-- In a run every response in a reading state selects a well-formed operation whose row condition holds (R123). -/
theorem exists_selected {s : State} (hr : isReading s.st = true) (hc : s.candidateInv) (r : Response) :
    ∃ i, decodeResponse s.conds (selectorOf r s.st) = .ok i ∧ i.wellFormed = true ∧ rowCondition s.conds i = true ∧
      (r = .timeout → i = .rxTimeout) ∧ (r = .error → i = .rxError) := by
  cases r with
  | data b =>
    obtain ⟨u, i, hd, -⟩ := exists_takes hr hc b
    obtain ⟨-, hwf, hrow⟩ := encode_of_decodeData hd
    exact ⟨i, (decodeResponse_data _ _ _).trans hd, hwf, hrow, nofun, nofun⟩
  | timeout => exact ⟨_, decodeResponse_timeout _ _, rfl, rfl, fun _ => rfl, nofun⟩
  | error => exact ⟨_, decodeResponse_error _ _, rfl, rfl, nofun, fun _ => rfl⟩

/-- Settles O14: a row is selected, and a row with that word whose conditions hold is what the word decodes to. -/
theorem exactlyOneRowAppliesToAResponse : Obligations.ExactlyOneRowAppliesToAResponse := by
  rintro s r ⟨-, hc, -⟩ hr
  obtain ⟨i, hd, hwf, hrow, ht, he⟩ := exists_selected hr hc r
  refine ⟨i, hd, hwf, hrow, ht, he, fun j hj hjwf hjrow => ?_⟩
  have hdj := decodeOfEncodeGivesTheOperation s.conds j _ hjwf hjrow hj
  exact Except.ok.inj (hdj.symm.trans hd)

/-! ### The bytes that leave the state as it was -/

/-- Settles O18. -/
theorem sync1SkipWritesNothing : Obligations.Sync1SkipWritesNothing :=
  fun _ _ hst hb => ⟨exec_sync1Skip hst hb, fun _ hh hs => step_of_takes hh hs (takes_sync1Skip hst hb)⟩

/-- In a run, WANT_SYNC2 holds what ANCHOR writes (R127). -/
theorem State.anchor_of_inv {s : State} (hst : s.st = .wantSync2) (hs : s.Inv) : s.anchor Config.sync1 = s := by
  obtain ⟨hw, hc, -⟩ := hs
  simp only [State.candidateInv, hst] at hc
  obtain ⟨hh, hhlen, hblen, htrl, htcnt⟩ := hc
  have hbuf : s.buf.write 0 Config.sync1 = s.buf := Memory.write_of_byte? hw.1 (hh.byte? rfl)
  have hidx : s.idx = 1 := BitVec.eq_of_toNat_eq hh.idx_toNat
  have hacc : s.acc = crcStep Config.crcInit Config.sync1 := hh.2.2
  rw [State.anchor, hbuf, ← hacc]
  cases s
  simp_all

/-- Settles O20: in a run ANCHOR writes what the registers hold. -/
theorem sync2ReanchorLeavesTheState : Obligations.Sync2ReanchorLeavesTheState := by
  refine fun s hst => ⟨syncByteOneAnchors s .sync2Reanchor (.inr (.inl ⟨rfl, hst⟩)), fun hs => ?_⟩
  refine ⟨(exec_sync2Reanchor hst).trans (congrArg _ (State.anchor_of_inv hst hs)), fun rest hh hst' => ?_⟩
  have hself : (s.setStream rest).anchor Config.sync1 = s.setStream rest :=
    State.anchor_of_inv hst (hs.of_sameScan {})
  have ht := step_of_takes hh hst' (takes_anchor (s := s.setStream rest) (.inr (.inl hst)))
  rwa [hself] at ht

/-! ### The decode step of an accepted frame has a next state (R160 to R177) -/

/-- The byte of an accepted frame's buffer at an index; 0 outside what was written. -/
def State.frameByte (s : State) (a : Nat) : Byte := (s.buf.byte? a).getD 0

/-- An accepted frame is readable to its end, and has the lengths that it declares (R146). -/
theorem State.accepted.readable {s : State} (h : s.accepted) :
    frameIs s s.frameByte ∧ frameLengths s ∧ 10 ≤ s.hlen.toNat := by
  obtain ⟨bs, hh, ⟨hmin, -⟩, -, hlen, hframe, -⟩ := h
  refine ⟨fun a ha => ?_, hframe.trans hlen, hmin⟩
  have hb := hh.byte? (List.getElem?_eq_getElem (hframe ▸ ha))
  rw [State.frameByte, hb]
  rfl

section DecodeRows

variable {s : State} {f : Nat → Byte}

theorem countFits_iff {blen : Nat} {count : Int} :
    countFits blen count = true ↔ count ≤ 0 ∨ 4 + 108 * count ≤ (blen : Int) := by
  rw [countFits, Bool.or_eq_true, decide_eq_true_iff, decide_eq_true_iff]
  rfl

theorem verFits_of_frameIs (hf : frameIs s f) (hl : frameLengths s) :
    s.verFits = .ok (decide (4 ≤ s.blen.toNat) && countFits s.blen.toNat (word32 f s.hlen.toNat).toInt) := by
  unfold State.verFits
  by_cases h4 : 4 ≤ s.blen.toNat
  · rw [if_pos h4, getI32_of_frameIs hf hl h4, decide_eq_true h4]
    rfl
  · rw [if_neg h4, decide_eq_false h4]
    rfl

/-- Every field of a component inside the body is readable (R176). -/
theorem exists_component (hf : frameIs s f) (hl : frameLengths s) {i : Nat}
    (h : 4 + 108 * (i + 1) ≤ s.blen.toNat) : ∃ c, s.component i = .ok c := by
  have hin : Config.verRecLen * i + 112 ≤ s.blen.toNat := by
    change 108 * i + 112 ≤ _
    omega
  simp (disch := omega) only [State.component, getI32_of_frameIs hf hl, getAscii_of_frameIs hf hl, except_bind_ok]
  exact ⟨_, rfl⟩

theorem exists_components (hf : frameIs s f) (hl : frameLengths s) {i n : Nat}
    (h : n = 0 ∨ 4 + 108 * (i + n) ≤ s.blen.toNat) : ∃ cs, s.components i n = .ok cs := by
  induction n generalizing i with
  | zero => exact ⟨[], rfl⟩
  | succ n ih =>
    obtain ⟨c, hc⟩ := exists_component (i := i) hf hl (by omega)
    obtain ⟨cs, hcs⟩ := ih (i := i + 1) (.inr (by omega))
    exact ⟨c :: cs, by rw [State.components, hc, except_bind_ok, hcs]; rfl⟩

/-- A version body that holds its components gives a record (R175 to R177). -/
theorem exists_versionRecord (hf : frameIs s f) (hl : frameLengths s) (hfits : s.verFits = .ok true) :
    ∃ v, s.versionRecord = .ok v := by
  rw [verFits_of_frameIs hf hl] at hfits
  obtain ⟨h4, hcount⟩ := Bool.and_eq_true_iff.1 (Except.ok.inj hfits)
  have h4 : 4 ≤ s.blen.toNat := of_decide_eq_true h4
  have hcount := countFits_iff.1 hcount
  obtain ⟨cs, hcs⟩ := exists_components (i := 0) (n := (word32 f s.hlen.toNat).toInt.toNat) hf hl (by omega)
  refine ⟨⟨(word32 f s.hlen.toNat).toInt, cs⟩, ?_⟩
  rw [State.versionRecord, getI32_of_frameIs hf hl h4, except_bind_ok, Nat.add_zero, hcs]
  rfl

theorem msgidVersion_ne_msgidPosition (p : Params) : p.msgidVersion ≠ p.msgidPosition := by
  have h := p.admissible
  simp only [paramsAdmissible, Bool.and_eq_true, bne_iff_ne] at h
  exact fun he => h.1.1.1.1.1.1.1.1 he.symm

/-! #### Each row where it is selected (R162, R165, R175) -/

theorem execDecVer_of_fits {v : VersionRecord} (hst : s.st = .decode)
    (hmt : s.messageType = some s.cfg.msgidVersion) (hfits : s.verFits = .ok true) (hv : s.versionRecord = .ok v) :
    execDecVer s = .next (s.setOutcome .version (.version v)) := by
  simp [execDecVer, hst, hmt, hfits, hv]

theorem execDecIntegrity_of_position (hst : s.st = .decode) (hmt : s.messageType = some s.cfg.msgidPosition)
    (hfits : s.posFits = false) : execDecIntegrity s = .next (s.setOutcome .integrity .none) := by
  simp [execDecIntegrity, hst, hmt, hfits]

theorem execDecIntegrity_of_version (hst : s.st = .decode) (hmt : s.messageType = some s.cfg.msgidVersion)
    (hfits : s.verFits = .ok false) : execDecIntegrity s = .next (s.setOutcome .integrity .none) := by
  simp [execDecIntegrity, hst, hmt, hfits, msgidVersion_ne_msgidPosition]

theorem execDecOther_of_messageType {mt : BitVec 16} (hst : s.st = .decode) (hmt : s.messageType = some mt)
    (hp : mt ≠ s.cfg.msgidPosition) (hv : mt ≠ s.cfg.msgidVersion) :
    execDecOther s = .next (s.setOutcome .unrecognized .none) := by
  simp [execDecOther, hst, hmt, bne_iff_ne.2 hp, bne_iff_ne.2 hv]

/-- Where the message type is readable, DEC.DISPATCH is the row that the type and the fit test choose (R161). -/
theorem execDecDispatch_of_messageType {mt : BitVec 16} (hst : s.st = .decode) (hmt : s.messageType = some mt) :
    execDecDispatch s =
      if mt = s.cfg.msgidPosition then if s.posFits then execDecPos s else execDecIntegrity s
      else if mt = s.cfg.msgidVersion then
        withDecoded s.verFits fun fits => if fits then execDecVer s else execDecIntegrity s
      else execDecOther s := by
  simp [execDecDispatch, hst, hmt]

end DecodeRows

/-- Whatever the message type and the lengths of an accepted frame, the row they choose answers a next state (R161). -/
theorem exists_execDecDispatch {s : State} (hst : s.st = .decode) (ha : s.accepted) :
    ∃ t, execDecDispatch s = .next t := by
  obtain ⟨hf, hl, h10⟩ := ha.readable
  have hmt := messageType_of_frameIs hf (by rw [hl]; omega)
  rw [execDecDispatch_of_messageType hst hmt]
  split
  next hp =>
    split
    next hfits =>
      obtain ⟨p, hx, -⟩ := positionRecordFields s _ hst hf hl hp (of_decide_eq_true hfits)
      exact ⟨_, hx⟩
    next hfits => exact ⟨_, execDecIntegrity_of_position hst (hp ▸ hmt) (Bool.eq_false_iff.2 hfits)⟩
  next hp =>
    split
    next hv =>
      cases hfits : s.verFits with
      | error e => rw [verFits_of_frameIs hf hl] at hfits; cases hfits
      | ok fits =>
        cases fits
        · exact ⟨_, execDecIntegrity_of_version hst (hv ▸ hmt) hfits⟩
        · obtain ⟨v, hrec⟩ := exists_versionRecord hf hl hfits
          exact ⟨_, execDecVer_of_fits hst (hv ▸ hmt) hfits hrec⟩
    next hv => exact ⟨_, execDecOther_of_messageType hst hmt hp hv⟩

theorem exists_execDecStep {s : State} (hst : s.st = .decode) (ha : s.accepted) : ∃ t, execDecStep s = .next t := by
  obtain ⟨u, hu⟩ := exists_execDecDispatch hst ha
  exact ⟨u.goto .idle, by rw [execDecStep, hu, andThen_of_next]⟩

/-! ### In a run only an inadmissible Timeout stops a step -/

theorem accepted_of_inv {s : State} (hs : s.Inv) (hframe : s.frameLen ≠ 0) : s.accepted := by
  obtain ⟨-, -, -, -, -, hacc, -⟩ := hs
  exact hacc hframe

theorem accepted_of_inv_decode {s : State} (hs : s.Inv) (hst : s.st = .decode) : s.accepted := by
  refine accepted_of_inv hs ?_
  obtain ⟨-, hc, -⟩ := hs
  simpa only [State.candidateInv, hst] using hc

/-- In a run the core's turn answers a next state, but for a Timeout that is not admissible (R121, R123, R160). -/
theorem coreFetch_of_inv {s : State} (hs : s.Inv) :
    (∃ t, runFetched (coreFetch s) = .next t) ∨
    runFetched (coreFetch s) = .refused .timeoutInadmissible ∧ isReading s.st = true ∧ s.tmoEn = false ∧
      ∃ rest, s.stream = .timeout :: rest := by
  by_cases hst : s.st = .decode
  · rw [coreFetch_decode hst]
    exact .inl (exists_execDecStep hst (accepted_of_inv_decode hs hst))
  by_cases hr : isReading s.st = true
  case neg =>
    have hidle : s.st = .idle := by
      cases h : s.st <;> simp_all [isReading]
    rw [coreFetch_hold (.inl hidle)]
    exact .inl ⟨s, rfl⟩
  case pos =>
    cases hstream : s.stream with
    | nil =>
      rw [coreFetch_hold (.inr ⟨hr, hstream⟩)]
      exact .inl ⟨s, rfl⟩
    | cons r rest =>
      cases r with
      | data b =>
        obtain ⟨-, hc, -⟩ : (s.setStream rest).Inv := hs.of_sameScan {}
        obtain ⟨u, hu⟩ := exists_takes (s := s.setStream rest) hr hc b
        exact .inl ⟨u, coreFetch_of_takes hstream hu⟩
      | error =>
        rw [coreFetch_answer hr hstream (decodeResponse_error _ _)]
        exact .inl ⟨_, exec_rxError (s := s.setStream rest) hr⟩
      | timeout =>
        rw [coreFetch_answer hr hstream (decodeResponse_timeout _ _)]
        cases ht : s.tmoEn with
        | true => exact .inl ⟨_, exec_rxTimeout (s := s.setStream rest) hr ht⟩
        | false => exact .inr ⟨(execRxTimeout_inadmissible_iff _).2 ⟨hr, ht⟩, hr, rfl, rest, rfl⟩

theorem exists_exec_decodeCtrl (w : Byte) (s : State) : ∃ t, exec (decodeCtrl w) s = .next t := by
  unfold decodeCtrl
  split
  · by_cases hst : s.st = .idle
    · exact ⟨_, if_pos hst⟩
    · exact ⟨_, if_neg hst⟩
  · exact ⟨_, rfl⟩

theorem exists_regValue {s : State} (hs : s.Inv) (n : BitVec 8) : ∃ v, s.regValue n = some v := by
  by_cases h6 : 6 ≤ n.toNat
  · exact ⟨0, s.regValue_reserved h6⟩
  have hn : n = 0 ∨ n = 1 ∨ n = 2 ∨ n = 3 ∨ n = 4 ∨ n = 5 := by bv_omega
  rcases hn with rfl | rfl | rfl | rfl | rfl | rfl
  case inr.inr.inr.inr.inr =>
    by_cases h0 : s.frameLen = 0
    · exact ⟨_, congrArg (Option.map _) (if_pos h0)⟩
    · obtain ⟨hf, hl, h10⟩ := (accepted_of_inv hs h0).readable
      exact ⟨_, congrArg (Option.map _) (msgTypeReg_of_frameIs hf (.inr (by rw [hl]; omega)))⟩
  all_goals exact ⟨_, rfl⟩

/-- In a run every host read has a value or is out of range: below `frame_len` every byte is readable (R34, R39). -/
theorem exists_hostRead {s : State} (hs : s.Inv) (target : Target) : ∃ t, hostRead s target = .next t := by
  cases target with
  | reg n =>
    obtain ⟨v, hv⟩ := exists_regValue hs n
    exact ⟨_, by rw [hostRead, hostReadReg, hv, withValue_some]⟩
  | record => exact ⟨_, rfl⟩
  | frame i =>
    by_cases hi : i.toNat < s.frameLen.toNat
    · obtain ⟨hf, -, -⟩ := (accepted_of_inv hs (by bv_omega)).readable
      exact ⟨_, hostReadFrame_of_lt hi (hf _ hi)⟩
    · exact ⟨_, hostReadFrame_of_le (Nat.not_lt.1 hi)⟩

/-- Settles O48: the core's turn stops only so, and a turn of the host not at all. -/
theorem onlyInadmissibleTimeoutStopsAStep : Obligations.OnlyInadmissibleTimeoutStopsAStep := by
  intro s hs
  have hs' (turns : List HostTurn) : (s.setHost turns).Inv := hs.of_sameScan {}
  cases hh : s.host with
  | nil =>
    rw [step_core hh]
    exact coreFetch_of_inv hs
  | cons turn turns =>
    cases turn with
    | pass =>
      rw [step_pass hh]
      exact coreFetch_of_inv (hs' turns)
    | read target =>
      rw [step_read hh]
      exact .inl (exists_hostRead (hs' turns) target)
    | write target w =>
      by_cases ht : target = .reg 0
      · rw [step_ctrl_write (ht ▸ hh)]
        exact .inl (exists_exec_decodeCtrl w _)
      · exact .inl ⟨_, step_ignored_write hh ht⟩
    | reset => exact .inl ⟨_, step_reset hh⟩

/-! ### Entry to DECODE and the end of a scan -/

/-- Settles O47: DECODE is entered in a state of a run, whose frame is then an accepted one. -/
theorem entryToDecodeHasAWholeFrame : Obligations.EntryToDecodeHasAWholeFrame := by
  intro s t hs h _ hst
  obtain ⟨bs, hh, ⟨hmin, hhead⟩, hbody, hlen, hframe, htrl, -⟩ :=
    accepted_of_inv_decode (stepKeepsTheInvariant s t hs h) hst
  have h10 : 10 ≤ t.hlen.toNat := hmin
  have hidx := hh.idx_toNat
  have hbyte {k : Nat} {v : Byte} (hk : k < 4) (hv : (headerHead t.hlen)[k]? = some v) : t.buf.byte? k = some v :=
    hh.byte? (by rw [← List.getElem?_take_of_lt hk, hhead, hv])
  have h8 := hh.byte? (List.getElem?_eq_getElem (show 8 < bs.length by omega))
  have h9 := hh.byte? (List.getElem?_eq_getElem (show 9 < bs.length by omega))
  have hblen := hbody.symm.trans (Memory.le16_of_bytes h8 h9)
  exact ⟨hbyte (by decide) rfl, hbyte (by decide) rfl, hbyte (by decide) rfl, hbyte (by decide) rfl, hmin,
    ⟨_, _, h8, h9, Option.some.inj hblen⟩, BitVec.eq_of_toNat_eq (hframe.trans hidx.symm), hidx.trans hlen,
    bs, hframe ▸ hh.1, hh.2.2.symm, htrl.symm⟩

/-- No operation that a data byte selects enters IDLE (R148). -/
theorem exec_decodeData_st_ne_idle {s t : State} {b : Byte} {i : Instr} (hd : decodeData s.conds s.st b = .ok i)
    (h : exec i s = .next t) : t.st ≠ .idle := by
  have hs : s.st ≠ .idle := fun hst => by simp [hst, decodeData] at hd
  rcases exec_decodeData_next rfl hd h with ⟨-, -, rfl⟩ | ⟨-, -, -, rfl⟩ | ⟨-, -, rfl⟩ | ⟨-, hstore⟩ | ⟨-, -, rfl⟩ |
    ⟨-, -, -, rfl⟩
  case inr.inr.inr.inl =>
    rcases hstore with ⟨-, -, rfl⟩ | ⟨-, -, rfl⟩ | ⟨-, -, rfl⟩ | ⟨-, -, rfl⟩ | ⟨-, -, bl, -, rfl⟩ | ⟨-, -, rfl⟩ |
      ⟨-, -, rfl⟩
    case inr.inr.inr.inr.inl => dsimp only; split <;> nofun
    all_goals simp [hs]
  all_goals simp [hs]

theorem hasFrame_of_execDecStep {s t : State} (h : execDecStep s = .next t) : hasFrame t.res = true := by
  obtain ⟨-, r, o, rfl, hout⟩ := execDecStep_next h
  rcases hout with ⟨rfl, -⟩ | ⟨rfl, -⟩ | ⟨rfl, -⟩ | ⟨rfl, -⟩ <;> rfl

theorem execDecStep_frameLen {s t : State} (h : execDecStep s = .next t) : t.frameLen = s.frameLen := by
  obtain ⟨-, r, o, rfl, -⟩ := execDecStep_next h
  rfl

/-- A turn of the core that enters IDLE is the decode step, a Timeout with `tmo_en = 1`, or an Error (R148). -/
theorem coreFetch_enters_idle {s t : State} (h : runFetched (coreFetch s) = .next t) (hs : s.st ≠ .idle)
    (ht : t.st = .idle) :
    s.st = .decode ∧ hasFrame t.res = true ∧ t.frameLen = s.frameLen ∨
    s.stream = .timeout :: t.stream ∧ s.tmoEn = true ∧ t.res = .timeout ∧ t.frameLen = 0 ∧ t.record = .none ∨
    s.stream = .error :: t.stream ∧ t.res = .transport ∧ t.frameLen = 0 ∧ t.record = .none := by
  rcases coreFetch_next h with ⟨hst, h⟩ | ⟨-, -, rfl⟩ | ⟨-, rest, hanswer⟩
  · exact .inl ⟨hst, hasFrame_of_execDecStep h, execDecStep_frameLen h⟩
  · exact absurd ht hs
  · rcases hanswer with ⟨hstream, htmo, rfl⟩ | ⟨hstream, rfl⟩ | ⟨b, i, -, hd, h⟩
    · exact .inr (.inl ⟨hstream, htmo, rfl, rfl, rfl⟩)
    · exact .inr (.inr ⟨hstream, rfl, rfl, rfl⟩)
    · exact absurd ht (exec_decodeData_st_ne_idle (s := s.setStream rest) hd h)

/-- Settles O54: the core's turn, or reset; no other turn of the host enters IDLE. -/
theorem scanEndsOnlyByAnOutcomeOrReset : Obligations.ScanEndsOnlyByAnOutcomeOrReset := by
  intro s t h hs ht
  rcases step_next h with ⟨turns, -, h⟩ | ⟨turns, w, -, h⟩ | ⟨turns, target, w, -, -, rfl⟩ |
    ⟨turns, target, -, h⟩ | ⟨turns, hh, rfl⟩
  · rcases coreFetch_enters_idle h hs ht with hdec | htmo | herr
    · exact .inl hdec
    · exact .inr (.inl htmo)
    · exact .inr (.inr (.inl herr))
  · rcases exec_decodeCtrl_next h with ⟨-, hidle, rfl⟩ | ⟨-, -, rfl⟩ | ⟨-, rfl⟩
    · exact absurd hidle hs
    · exact absurd ht hs
    · exact absurd ht hs
  · exact absurd ht hs
  · rcases hostRead_next h with ⟨i, -, -, rfl⟩ | ⟨-, r, rfl⟩ <;> exact absurd ht hs
  · exact .inr (.inr (.inr ⟨by simp [asserts, hh], rfl⟩))

end Sys2Proof.Machine

/-! SUPPORT. The proofs of the statements of spec/41_frame_scanner.md about whole scans: runs on data bytes alone, the
search for the preamble, and the frame behind it. -/

namespace Sys2Proof.Machine

open Sys2Proof.Certificates

/-! ### Runs on data bytes -/

section Run

variable {M : Host.Core} {s t u : M.State}

theorem run_succ (h : M.step s = .next u) (n : Nat) : M.run (n + 1) s = M.run n u := by
  rw [Host.Core.run, h]

theorem run_succ_next {n : Nat} (h : M.run (n + 1) s = .next t) : ∃ u, M.step s = .next u ∧ M.run n u = .next t := by
  rw [Host.Core.run] at h
  split at h
  next u hu => exact ⟨u, hu, h⟩
  all_goals cases h

/-- A run of `m` steps and then `n` more. -/
theorem run_add {m : Nat} (h : M.run m s = .next t) (n : Nat) : M.run (m + n) s = M.run n t := by
  induction m generalizing s with
  | zero => cases h; rw [Nat.zero_add]
  | succ m ih =>
    obtain ⟨u, hu, hrest⟩ := run_succ_next h
    rw [Nat.add_right_comm, run_succ hu, ih hrest]

end Run

/-- The operation that a data byte selects is no turn of the host (R121). -/
theorem exec_decodeData_host {s t : State} {b : Byte} {i : Instr} (hd : decodeData s.conds s.st b = .ok i)
    (h : exec i s = .next t) : t.host = s.host := by
  rcases exec_decodeData_next rfl hd h with ⟨-, -, rfl⟩ | ⟨-, -, -, rfl⟩ | ⟨-, -, rfl⟩ | ⟨-, hstore⟩ | ⟨-, -, rfl⟩ |
    ⟨-, -, -, rfl⟩
  case inr.inr.inr.inl =>
    rcases hstore with ⟨-, -, rfl⟩ | ⟨-, -, rfl⟩ | ⟨-, -, rfl⟩ | ⟨-, -, rfl⟩ | ⟨-, -, _, -, rfl⟩ | ⟨-, -, rfl⟩ |
      ⟨-, -, rfl⟩ <;> rfl
  all_goals rfl

/-- No host turn is listed, and the byte source has the data bytes `bs` and then `rest`. -/
def State.receives (s : State) (bs : List Byte) (rest : List Response) : Prop :=
  s.host = [] ∧ s.stream = bs.map .data ++ rest

theorem State.receives_append {s : State} {bs cs : List Byte} {rest : List Response} :
    s.receives (bs ++ cs) rest ↔ s.receives bs (cs.map .data ++ rest) := by
  simp [State.receives]

theorem State.receives_nil {s : State} {bs : List Byte} {rest : List Response} :
    s.receives [] (bs.map .data ++ rest) ↔ s.receives bs rest := Iff.rfl

/-- One data byte taken. -/
theorem step_of_receives {s u : State} {b : Byte} {bs : List Byte} {rest : List Response}
    (h : s.receives (b :: bs) rest) (ht : (s.setStream (bs.map .data ++ rest)).takes b u) :
    step s = .next u ∧ u.receives bs rest := by
  obtain ⟨hh, hs⟩ := h
  refine ⟨step_of_takes hh hs ht, ?_⟩
  obtain ⟨i, hd, hx⟩ := ht
  exact ⟨(exec_decodeData_host hd hx).trans hh, exec_decodeData_stream rfl hd hx⟩

/-- A property of the bytes taken so far and the state, kept by each further byte of `all`, holds after all of them: a
run takes one byte per step (R147). -/
theorem run_receives {P : List Byte → State → Prop} {all : List Byte}
    (hstream : ∀ xs t rest, P xs t → P xs (t.setStream rest))
    (hstep : ∀ xs b t, xs ++ [b] <+: all → P xs t → ∃ u, t.takes b u ∧ P (xs ++ [b]) u)
    {xs ys : List Byte} (hall : all = xs ++ ys) {s : State} {rest : List Response} (hs : s.receives ys rest)
    (hP : P xs s) : ∃ t, core.run ys.length s = .next t ∧ t.receives [] rest ∧ P all t := by
  induction ys generalizing xs s with
  | nil => exact ⟨s, rfl, hs, by rwa [hall, List.append_nil]⟩
  | cons b ys ih =>
    have hpre : all = (xs ++ [b]) ++ ys := by simp [hall]
    obtain ⟨u, hu, hPu⟩ := hstep xs b _ ⟨ys, hpre.symm⟩ (hstream xs s (ys.map .data ++ rest) hP)
    obtain ⟨hrun, hrec⟩ := step_of_receives hs hu
    obtain ⟨t, ht, hrest⟩ := ih hpre hrec hPu
    exact ⟨t, (run_succ (M := core) hrun _).trans ht, hrest⟩

/-! ### The search for the preamble (R144) -/

/-- The preamble and its beginnings. -/
def preamble : List Byte := [Config.sync1, Config.sync2, Config.sync3]

/-- What the sync states say of the bytes `xs` taken since WANT_SYNC1: which beginning of the preamble `xs` ends in, and
that the candidate is that beginning. -/
def State.searched (xs : List Byte) (s : State) : Prop :=
  (s.st = .wantSync1 ∧ ¬[Config.sync1] <:+ xs ∧ ¬[Config.sync1, Config.sync2] <:+ xs) ∨
  (s.st = .wantSync2 ∧ [Config.sync1] <:+ xs ∧ s.candidateInv) ∨
  (s.st = .wantSync3 ∧ [Config.sync1, Config.sync2] <:+ xs ∧ s.candidateInv)

theorem suffix_snoc {a b : Byte} {ys xs : List Byte} : ys ++ [a] <:+ xs ++ [b] ↔ ys <:+ xs ∧ a = b := by
  have hlen : [a].length = [b].length := rfl
  rw [List.suffix_append_inj_of_length_eq hlen, List.singleton_inj]

theorem sync1_suffix_snoc {b : Byte} {xs : List Byte} : [Config.sync1] <:+ xs ++ [b] ↔ Config.sync1 = b :=
  (suffix_snoc (ys := [])).trans (and_iff_right xs.nil_suffix)

theorem sync2_suffix_snoc {b : Byte} {xs : List Byte} :
    [Config.sync1, Config.sync2] <:+ xs ++ [b] ↔ [Config.sync1] <:+ xs ∧ Config.sync2 = b :=
  suffix_snoc (ys := [Config.sync1])

theorem preamble_suffix_snoc {b : Byte} {xs : List Byte} :
    preamble <:+ xs ++ [b] ↔ [Config.sync1, Config.sync2] <:+ xs ∧ Config.sync3 = b :=
  suffix_snoc (ys := [Config.sync1, Config.sync2])

/-- A sequence ends in at most one of the two: their last bytes differ. -/
theorem not_sync2_suffix_of_sync1 {xs : List Byte} (h : [Config.sync1] <:+ xs) :
    ¬[Config.sync1, Config.sync2] <:+ xs := by
  obtain ⟨ys, rfl⟩ := h
  rw [sync2_suffix_snoc]
  exact fun h => absurd h.2 (by decide)

theorem candidateInv_anchor (s : State) : (s.anchor Config.sync1).candidateInv :=
  ⟨s.holds_anchor _, rfl, rfl, rfl, rfl⟩

/-- Sync byte 1 opens a new candidate, whatever was searched (R125, R127, R130). -/
theorem searched_anchor {xs : List Byte} {s : State} (h : s.searched xs) :
    s.takes Config.sync1 (s.anchor Config.sync1) ∧ (s.anchor Config.sync1).searched (xs ++ [Config.sync1]) := by
  refine ⟨takes_anchor ?_, .inr (.inl ⟨rfl, sync1_suffix_snoc.2 rfl, candidateInv_anchor s⟩)⟩
  rcases h with ⟨hst, -⟩ | ⟨hst, -⟩ | ⟨hst, -⟩
  · exact .inl hst
  · exact .inr (.inl hst)
  · exact .inr (.inr hst)

/-- A byte that continues no beginning of the preamble: the search starts again (R128, R131). -/
theorem searched_drop {xs : List Byte} {s : State} {b : Byte} (h1 : b ≠ Config.sync1)
    (h2 : ¬[Config.sync1, Config.sync2] <:+ xs ++ [b]) : s.drop.searched (xs ++ [b]) :=
  .inl ⟨rfl, fun h => h1 (sync1_suffix_snoc.1 h).symm, h2⟩

/-- Every byte that does not complete the preamble is taken, and the search goes on (R124 to R131). -/
theorem exists_takes_searched {xs : List Byte} {s : State} {b : Byte} (hs : s.searched xs)
    (hb : ¬preamble <:+ xs ++ [b]) : ∃ u, s.takes b u ∧ u.searched (xs ++ [b]) := by
  by_cases h1 : b = Config.sync1
  · subst h1
    exact ⟨_, searched_anchor hs⟩
  have hne1 : ¬[Config.sync1] <:+ xs ++ [b] := fun h => h1 (sync1_suffix_snoc.1 h).symm
  rcases hs with ⟨hst, hno1, -⟩ | ⟨hst, hend, hc⟩ | ⟨hst, hend, hc⟩
  · exact ⟨s, takes_sync1Skip hst h1, .inl ⟨hst, hne1, fun h => hno1 (sync2_suffix_snoc.1 h).1⟩⟩
  · by_cases h2 : b = Config.sync2
    · subst h2
      have hi := idx_lt_frameMax_of_sync (.inl hst) hc
      exact ⟨_, takes_sync2Match hst hi, .inr (.inr ⟨rfl, sync2_suffix_snoc.2 ⟨hend, rfl⟩,
        candidateInv_sync2Match hst hc hi⟩)⟩
    · exact ⟨_, takes_sync2Reset hst h2 h1, searched_drop h1 fun h => h2 (sync2_suffix_snoc.1 h).2.symm⟩
  · have h3 : b ≠ Config.sync3 := fun h => hb (preamble_suffix_snoc.2 ⟨hend, h.symm⟩)
    refine ⟨_, takes_sync3Reset hst h3 h1, searched_drop h1 fun h => ?_⟩
    exact not_sync2_suffix_of_sync1 (sync2_suffix_snoc.1 h).1 hend

theorem not_preamble_infix_snoc {xs : List Byte} {b : Byte} (h : ¬preamble <:+: xs) (hb : Config.sync3 ≠ b) :
    ¬preamble <:+: xs ++ [b] := by
  rw [List.infix_concat_iff, preamble_suffix_snoc]
  exact not_or_intro (fun hend => hb hend.2) h

/-- On bytes without the preamble the search goes on to their end. -/
theorem run_searched {s : State} {bs : List Byte} {rest : List Response} (hst : s.st = .wantSync1)
    (hs : s.receives bs rest) (hbs : ¬preamble <:+: bs) :
    ∃ t, core.run bs.length s = .next t ∧ t.receives [] rest ∧ t.searched bs := by
  refine run_receives (fun _ _ _ h => h) (fun xs b t hpre ht => ?_) (List.nil_append bs).symm hs
    (.inl ⟨hst, by simp, by simp⟩)
  exact exists_takes_searched ht fun hend => hbs (hend.isInfix.trans hpre.isInfix)

theorem run_searched_take {s : State} {bs : List Byte} {rest : List Response} {n : Nat} (hst : s.st = .wantSync1)
    (hs : s.receives bs rest) (hbs : ¬preamble <:+: bs) (hn : n ≤ bs.length) :
    ∃ t, core.run n s = .next t ∧ t.searched (bs.take n) := by
  rw [← List.take_append_drop n bs, State.receives_append] at hs
  obtain ⟨t, hrun, -, ht⟩ := run_searched hst hs fun h => hbs (h.trans (List.take_prefix n bs).isInfix)
  rw [List.length_take_of_le hn] at hrun
  exact ⟨t, hrun, ht⟩

/-- What the search keeps: nothing, or just the latest sync byte 1 and the sync byte 2 behind it (R144). -/
theorem searched_keeps {xs : List Byte} {s : State} (h : s.searched xs) :
    s.st = .wantSync1 ∨ s.st = .wantSync2 ∧ s.idx = 1 ∧ s.buf.byte? 0 = some 0xAA ∨
      s.st = .wantSync3 ∧ s.idx = 2 ∧ s.buf.byte? 0 = some 0xAA ∧ s.buf.byte? 1 = some 0x44 := by
  rcases h with ⟨hst, -⟩ | ⟨hst, -, hc⟩ | ⟨hst, -, hc⟩
  · exact .inl hst
  · simp only [State.candidateInv, hst] at hc
    obtain ⟨hh, -⟩ := hc
    exact .inr (.inl ⟨hst, BitVec.eq_of_toNat_eq hh.idx_toNat, hh.byte? rfl⟩)
  · simp only [State.candidateInv, hst] at hc
    obtain ⟨hh, -⟩ := hc
    exact .inr (.inr ⟨hst, BitVec.eq_of_toNat_eq hh.idx_toNat, hh.byte? rfl, hh.byte? rfl⟩)

/-- Bytes that end in sync bytes 1 and 2 leave the scanner waiting for sync byte 3. -/
theorem searched_of_sync2_suffix {xs : List Byte} {s : State} (h : s.searched xs)
    (hend : [Config.sync1, Config.sync2] <:+ xs) : s.st = .wantSync3 ∧ s.candidateInv := by
  rcases h with ⟨-, -, hno⟩ | ⟨-, h1, -⟩ | ⟨hst, -, hc⟩
  · exact absurd hend hno
  · exact absurd hend (not_sync2_suffix_of_sync1 h1)
  · exact ⟨hst, hc⟩

/-- Bytes without the preamble, and then all of it but its last byte, do not contain it. -/
theorem not_preamble_infix_almost {before : List Byte} (h : ¬preamble <:+: before) :
    ¬preamble <:+: before ++ [Config.sync1] ++ [Config.sync2] :=
  not_preamble_infix_snoc (not_preamble_infix_snoc h (by decide)) (by decide)

theorem append_preamble (before : List Byte) :
    before ++ preamble = before ++ [Config.sync1] ++ [Config.sync2] ++ [Config.sync3] := by
  simp [preamble]

/-- The scanner waits for the header length right after the first preamble. -/
theorem run_preamble {s : State} {before : List Byte} {rest : List Response} (hst : s.st = .wantSync1)
    (hno : ¬preamble <:+: before) (hs : s.receives (before ++ preamble) rest) :
    ∃ t, core.run (before.length + 3) s = .next t ∧ t.receives [] rest ∧ t.st = .wantHeaderLen ∧ t.candidateInv := by
  rw [append_preamble, State.receives_append] at hs
  obtain ⟨t, hrun, hrec, hsearched⟩ := run_searched hst hs (not_preamble_infix_almost hno)
  obtain ⟨ht, hc⟩ := searched_of_sync2_suffix hsearched (sync2_suffix_snoc.2 ⟨sync1_suffix_snoc.2 rfl, rfl⟩)
  have hi := idx_lt_frameMax_of_sync (.inr (.inl ht)) hc
  obtain ⟨hstep, hrest⟩ := step_of_receives (bs := []) hrec (takes_sync3Match (s := t.setStream rest) ht hi)
  have hlen : (before ++ [Config.sync1] ++ [Config.sync2]).length = before.length + 2 := by simp
  rw [hlen] at hrun
  exact ⟨_, (run_add (M := core) hrun 1).trans (run_succ (M := core) hstep 0), hrest, rfl,
    candidateInv_sync3Match (s := t.setStream rest) ht hc hi⟩

/-- Settles O55: before its end the search has not met the preamble, and its last byte completes it. -/
theorem firstPreambleIsFound : Obligations.FirstPreambleIsFound := by
  intro s before rest hst hh hno hs
  have hno : ¬preamble <:+: before := hno
  have hs : s.receives (before ++ preamble) rest := ⟨hh, hs⟩
  constructor
  · intro n hn
    rw [append_preamble, State.receives_append] at hs
    obtain ⟨t, hrun, ht⟩ := run_searched_take hst hs (not_preamble_infix_almost hno) (n := n) (by simp; omega)
    exact ⟨t, hrun, searched_keeps ht⟩
  · obtain ⟨t, hrun, ⟨-, hrest⟩, ht, hc⟩ := run_preamble hst hno hs
    simp only [State.candidateInv, ht] at hc
    obtain ⟨hh, -⟩ := hc
    exact ⟨t, hrun, ht, hrest, BitVec.eq_of_toNat_eq hh.idx_toNat, hh.1⟩

end Sys2Proof.Machine

/-! SUPPORT. The proof of the statement of spec/41_frame_scanner.md about a frame after noise: the header and body
behind the preamble, the trailer, and the whole scan. -/

namespace Sys2Proof.Machine

open Sys2Proof.Certificates

/-! ### Header and body behind the preamble (R132 to R137) -/

/-- A frame on the wire with header length byte `l` and body length `bl` (R70 to R73). -/
structure Declares (frame : List Byte) (l : Byte) (bl : BitVec 16) : Prop where
  head : frame.take 3 = preamble
  hlen : frame[3]? = some l
  blen : ∃ lo hi, frame[8]? = some lo ∧ frame[9]? = some hi ∧ bl = hi ++ lo
  min : 10 ≤ l.toNat
  length : frame.length = l.toNat + bl.toNat

theorem exists_declares {frame : List Byte} (h : isRawFrame frame) : ∃ l bl, Declares frame l bl := by
  obtain ⟨l, lo, hi, hpre, hl, hlo, hhi, hmin, hlen⟩ := h
  refine ⟨l, hi ++ lo, hpre, hl, ⟨lo, hi, hlo, hhi, rfl⟩, hmin, ?_⟩
  rw [hlen, toNat_append_eq_add]
  omega

/-- The bytes `xs` of a frame with these lengths are stored, and the scanner waits for its next byte, or for the first
of the trailer when the frame is complete. -/
def State.framing (l : Byte) (bl : BitVec 16) (xs : List Byte) (s : State) : Prop :=
  s.holds xs ∧ s.trl = 0 ∧ s.tcnt = 0 ∧
    ((s.st = .wantHeaderLen ∧ xs.length = 3) ∨
     (s.st = .headerRest ∧ s.hlen = l ∧ xs.length < l.toNat) ∨
     (s.st = .body ∧ s.hlen = l ∧ s.blen = bl ∧ xs.length < l.toNat + bl.toNat) ∨
     (s.st = .trailer ∧ xs.length = l.toNat + bl.toNat))

section Framing

variable {frame xs : List Byte} {l b : Byte} {bl : BitVec 16} {s : State}

/-- A byte of the stored beginning of a frame is the frame's. -/
theorem getElem?_of_prefix {ys : List Byte} (h : ys <+: frame) {k : Nat} (hk : k < ys.length) : ys[k]? = frame[k]? := by
  obtain ⟨zs, rfl⟩ := h
  exact (List.getElem?_append_left hk).symm

theorem framing_hlenAccept (hd : Declares frame l bl) (hpre : xs ++ [b] <+: frame) (hh : s.holds xs)
    (htrl : s.trl = 0) (htcnt : s.tcnt = 0) (hst : s.st = .wantHeaderLen) (hlen : xs.length = 3) :
    ∃ u, s.takes b u ∧ u.framing l bl (xs ++ [b]) := by
  have hi := hh.idx_lt_frameMax (by omega)
  have hmin := hd.min
  have hb : b = l := by
    have hget := (getElem?_of_prefix hpre (k := 3) (by simp [hlen])).trans hd.hlen
    simpa [← hlen] using hget
  refine ⟨_, takes_hlenAccept hst (hb ▸ hmin) hi, State.holds_store b hh hi, htrl, htcnt, .inr (.inl ⟨rfl, hb, ?_⟩)⟩
  rw [List.length_append, List.length_singleton]
  omega

/-- After the last byte of the header the body length is readable and is the frame's. -/
theorem le16_of_header (hd : Declares frame l bl) (hpre : xs <+: frame) (hh : s.holds xs) (hlen : 10 ≤ xs.length) :
    s.buf.le16 8 = some bl := by
  obtain ⟨lo, hi, hlo, hhi, rfl⟩ := hd.blen
  exact Memory.le16_of_bytes (hh.byte? ((getElem?_of_prefix hpre (by omega)).trans hlo))
    (hh.byte? ((getElem?_of_prefix hpre (by omega)).trans hhi))

theorem framing_header (hd : Declares frame l bl) (hpre : xs ++ [b] <+: frame) (hh : s.holds xs)
    (htrl : s.trl = 0) (htcnt : s.tcnt = 0) (hst : s.st = .headerRest) (hl : s.hlen = l) (hlt : xs.length < l.toNat) :
    ∃ u, s.takes b u ∧ u.framing l bl (xs ++ [b]) := by
  have hidx := hh.idx_toNat
  have hmin := hd.min
  have hlen : (xs ++ [b]).length = xs.length + 1 := by simp
  have hh' := State.holds_store b hh (State.idx_lt_frameMax (by rw [hl]; omega))
  by_cases hlast : s.idx.toNat + 1 = s.hlen.toNat
  · have hbl := le16_of_header hd hpre hh' (by rw [hl] at hlast; omega)
    refine ⟨_, takes_hdrLast hst hlast hbl, hh', htrl, htcnt, .inr (.inr ?_)⟩
    rw [hl] at hlast
    by_cases h0 : 0 < bl.toNat
    · exact .inl ⟨if_pos h0, hl, rfl, by omega⟩
    · exact .inr ⟨if_neg h0, by omega⟩
  · rw [hl] at hlast
    exact ⟨_, takes_hdrByte hst (by rw [hl]; omega), hh', htrl, htcnt, .inr (.inl ⟨hst, hl, by omega⟩)⟩

theorem framing_body (hh : s.holds xs) (htrl : s.trl = 0) (htcnt : s.tcnt = 0) (hst : s.st = .body) (hl : s.hlen = l)
    (hbl : s.blen = bl) (hlt : xs.length < l.toNat + bl.toNat) :
    ∃ u, s.takes b u ∧ u.framing l bl (xs ++ [b]) := by
  subst hl hbl
  have hidx := hh.idx_toNat
  have hlen : (xs ++ [b]).length = xs.length + 1 := by simp
  have hh' := State.holds_store b hh (State.idx_lt_frameMax (by omega))
  by_cases hlast : s.idx.toNat + 1 = s.hlen.toNat + s.blen.toNat
  · exact ⟨_, takes_bodyLast hst hlast, hh', htrl, htcnt, .inr (.inr (.inr ⟨rfl, by omega⟩))⟩
  · exact ⟨_, takes_bodyByte hst (by omega), hh', htrl, htcnt, .inr (.inr (.inl ⟨hst, rfl, rfl, by omega⟩))⟩

/-- Each further byte of the frame is stored. -/
theorem exists_takes_framing (hd : Declares frame l bl) (hpre : xs ++ [b] <+: frame) (h : s.framing l bl xs) :
    ∃ u, s.takes b u ∧ u.framing l bl (xs ++ [b]) := by
  obtain ⟨hh, htrl, htcnt, ⟨hst, hlen⟩ | ⟨hst, hl, hlt⟩ | ⟨hst, hl, hbl, hlt⟩ | ⟨-, hlen⟩⟩ := h
  · exact framing_hlenAccept hd hpre hh htrl htcnt hst hlen
  · exact framing_header hd hpre hh htrl htcnt hst hl hlt
  · exact framing_body hh htrl htcnt hst hl hbl hlt
  · have hle := hpre.length_le
    rw [hd.length, List.length_append, List.length_singleton] at hle
    omega

theorem framing_preamble (hst : s.st = .wantHeaderLen) (hc : s.candidateInv) : s.framing l bl preamble := by
  simp only [State.candidateInv, hst] at hc
  obtain ⟨hh, -, -, htrl, htcnt⟩ := hc
  exact ⟨hh, htrl, htcnt, .inl ⟨hst, rfl⟩⟩

/-- Only the trailer is left to read when all bytes of the frame are stored. -/
theorem framing_complete (hd : Declares frame l bl) (h : s.framing l bl frame) :
    s.st = .trailer ∧ s.holds frame ∧ s.trl = 0 ∧ s.tcnt = 0 := by
  have hlength := hd.length
  have hmin := hd.min
  obtain ⟨hh, htrl, htcnt, ⟨-, hlen⟩ | ⟨-, -, hlt⟩ | ⟨-, -, -, hlt⟩ | ⟨hst, -⟩⟩ := h
  · omega
  · omega
  · omega
  · exact ⟨hst, hh, htrl, htcnt⟩

/-- From the header length on, the scanner stores the rest of a frame, one byte per step (R132 to R137, R147). -/
theorem run_frame {rest : List Response} (hframe : isRawFrame frame) (hst : s.st = .wantHeaderLen)
    (hc : s.candidateInv) (hs : s.receives (frame.drop 3) rest) :
    ∃ t, core.run (frame.drop 3).length s = .next t ∧ t.receives [] rest ∧
      t.st = .trailer ∧ t.holds frame ∧ t.trl = 0 ∧ t.tcnt = 0 := by
  obtain ⟨l, bl, hd⟩ := exists_declares hframe
  have hall : frame = preamble ++ frame.drop 3 := by rw [← hd.head, List.take_append_drop]
  obtain ⟨t, hrun, hrec, ht⟩ := run_receives (P := State.framing l bl) (fun _ _ _ h => h)
    (fun _ _ _ hpre h => exists_takes_framing hd hpre h) hall hs (framing_preamble hst hc)
  exact ⟨t, hrun, hrec, framing_complete hd ht⟩

end Framing

/-! ### The trailer (R138, R139) -/

/-- The low `k` bytes of a word, the rest zero: what `trl` holds after `k` bytes of that trailer (R26). -/
def lowBytes (w : Word) (k : Nat) : Word := (w.setWidth (8 * k)).setWidth 32

theorem getLsbD_lowBytes (w : Word) (k j : Nat) : (lowBytes w k).getLsbD j = (decide (j < 8 * k) && w.getLsbD j) := by
  rw [lowBytes, BitVec.getLsbD_setWidth, BitVec.getLsbD_setWidth]
  by_cases hj : j < 32
  · simp [hj]
  · simp [hj, BitVec.getLsbD_of_ge w j (Nat.not_lt.1 hj)]

/-- The next byte is placed behind the low ones (R138). -/
theorem lowBytes_succ (w : Word) (k : Nat) :
    lowBytes w k ||| ((w.extractLsb' (8 * k) 8).setWidth 32 <<< (8 * k)) = lowBytes w (k + 1) := by
  refine BitVec.eq_of_getLsbD_eq fun j hj => ?_
  rw [BitVec.getLsbD_or, BitVec.getLsbD_shiftLeft, BitVec.getLsbD_setWidth, BitVec.getLsbD_extractLsb',
    getLsbD_lowBytes, getLsbD_lowBytes]
  by_cases hlow : j < 8 * k
  · simp [hlow, show j < 8 * (k + 1) by omega]
  · by_cases hbyte : j < 8 * (k + 1)
    · simp [hlow, hbyte, hj, show j - 8 * k < 32 by omega, show j - 8 * k < 8 by omega,
        Nat.add_sub_cancel' (Nat.not_lt.1 hlow)]
    · simp [hlow, hbyte, show ¬j - 8 * k < 8 by omega]

theorem fullTrailer_lowBytes (w : Word) : fullTrailer (lowBytes w 3) (w.extractLsb' 24 8) = w :=
  (lowBytes_succ w 3).trans ((BitVec.setWidth_eq _).trans (BitVec.setWidth_eq w))

/-- `s` with `k` bytes of the trailer `w` read and the answers `rest` to come. -/
def State.trailerRead (s : State) (w : Word) (k : Nat) (rest : List Response) : State :=
  { s with trl := lowBytes w k, tcnt := BitVec.ofNat 3 k, stream := rest }

section Trailer

variable {s : State} {rest : List Response}

/-- One byte of the trailer that is not its last. -/
theorem step_trailerRead {w : Word} {k : Nat} (hst : s.st = .trailer) (hh : s.host = []) (hk : k < 3) :
    step (s.trailerRead w k (.data (w.extractLsb' (8 * k) 8) :: rest)) = .next (s.trailerRead w (k + 1) rest) := by
  have hcnt : (BitVec.ofNat 3 k).toNat = k := by rw [BitVec.toNat_ofNat]; omega
  have hsucc : BitVec.ofNat 3 k + 1 = BitVec.ofNat 3 (k + 1) := by rw [BitVec.ofNat_add]; rfl
  have htakes := takes_trlByte (s := s.trailerRead w k rest) (b := w.extractLsb' (8 * k) 8) hst (hcnt.symm ▸ hk)
  refine (step_of_takes (s := s.trailerRead w k (_ :: rest)) hh rfl htakes).trans ?_
  simp only [State.trailerRead, hcnt, hsucc, lowBytes_succ]

/-- Three bytes of the trailer are read; the fourth is next. -/
theorem run_trailer {w : Word} (hst : s.st = .trailer) (htrl : s.trl = 0) (htcnt : s.tcnt = 0)
    (hs : s.receives (le32bytes w) rest) :
    core.run 3 s = .next (s.trailerRead w 3 (.data (w.extractLsb' 24 8) :: rest)) := by
  obtain ⟨hh, hs⟩ := hs
  have hstart : s = s.trailerRead w 0 ((le32bytes w).map .data ++ rest) := by
    have hzero : lowBytes w 0 = 0 := BitVec.eq_of_getLsbD_eq fun j _ => by simp [getLsbD_lowBytes]
    rw [State.trailerRead, hzero, ← htrl, ← hs]
    cases s
    simp_all
  rw [hstart]
  exact (run_succ (M := core) (step_trailerRead (s := s) (k := 0) hst hh (by decide)) 2).trans
    ((run_succ (M := core) (step_trailerRead (s := s) (k := 1) hst hh (by decide)) 1).trans
      (run_succ (M := core) (step_trailerRead (s := s) (k := 2) hst hh (by decide)) 0))

/-- A trailer that is the checksum accepts the frame (R139, R105). -/
theorem run_trlAccept {frame : List Byte} (hst : s.st = .trailer) (hh : s.holds frame) (htrl : s.trl = 0)
    (htcnt : s.tcnt = 0) (hs : s.receives (le32bytes (crc32 frame)) rest) :
    ∃ t, core.run 4 s = .next t ∧ t.st = .decode ∧ t.stream = rest ∧ t.frameLen.toNat = frame.length ∧
      t.buf.read 0 frame.length = some frame := by
  obtain ⟨hread, hidx, hacc⟩ := hh
  have hcrc := (fullTrailer_lowBytes (crc32 frame)).trans hacc.symm
  have htakes := takes_trlAccept (s := s.trailerRead (crc32 frame) 3 rest) hst rfl hcrc
  have hlast := step_of_takes (s := s.trailerRead (crc32 frame) 3 (_ :: rest)) hs.1 rfl htakes
  have hrun := (run_add (M := core) (run_trailer hst htrl htcnt hs) 1).trans (run_succ (M := core) hlast 0)
  exact ⟨_, hrun, rfl, rfl, hidx, hread⟩

end Trailer

/-! ### The whole scan -/

/-- A scan of noise without the preamble and then a frame has stored the frame when its trailer is next (R145). -/
theorem run_noise_frame {s : State} {noise frame : List Byte} {rest : List Response} (hst : s.st = .wantSync1)
    (hno : ¬preamble <:+: noise) (hframe : isRawFrame frame) (hs : s.receives (noise ++ frame) rest) :
    ∃ t, core.run (noise.length + frame.length) s = .next t ∧ t.receives [] rest ∧
      t.st = .trailer ∧ t.holds frame ∧ t.trl = 0 ∧ t.tcnt = 0 := by
  obtain ⟨l, bl, hd⟩ := exists_declares hframe
  have hsplit : frame = preamble ++ frame.drop 3 := by rw [← hd.head, List.take_append_drop]
  have hlen : noise.length + frame.length = (noise.length + 3) + (frame.drop 3).length := by
    have hpre : preamble.length = 3 := rfl
    conv_lhs => rw [hsplit, List.length_append, hpre]
    omega
  rw [hsplit, ← List.append_assoc, State.receives_append] at hs
  obtain ⟨t, hrun, hrec, ht, hc⟩ := run_preamble hst hno hs
  obtain ⟨u, hrun', hu⟩ := run_frame hframe ht hc (State.receives_nil.1 hrec)
  exact ⟨u, by rw [hlen]; exact (run_add (M := core) hrun _).trans hrun', hu⟩

/-- Settles O56: the search ends behind the frame's preamble, the rest of the frame is stored, and the trailer
accepts. -/
theorem frameAfterNoiseIsAccepted : Obligations.FrameAfterNoiseIsAccepted := by
  intro s noise frame rest hst hh hno hframe hs
  have hs : s.receives (noise ++ frame ++ le32bytes (crc32 frame)) rest := ⟨hh, hs⟩
  obtain ⟨t, hrun, hrec, ht, hholds, htrl, htcnt⟩ := run_noise_frame hst hno hframe (State.receives_append.1 hs)
  obtain ⟨u, hrun', hu⟩ := run_trlAccept ht hholds htrl htcnt (State.receives_nil.1 hrec)
  exact ⟨u, (run_add (M := core) hrun 4).trans hrun', hu⟩

end Sys2Proof.Machine

/-! SUPPORT. The proofs of the statements of spec/42_field_decoder.md: the shared primitives, the records and flags of the
decode rows, and the choice of one row. -/

namespace Sys2Proof.Machine

open Sys2Proof.Certificates

/-! ### The shared primitives (R180, R185) -/

theorem asciiTrim_of_forall_ne {field : List Byte} (h : ∀ b ∈ field, b ≠ 0) : asciiTrim field = field := by
  rw [asciiTrim_eq_takeWhile, List.takeWhile_eq_self_iff]
  exact fun b hb => bne_iff_ne.2 (h b hb)

theorem asciiTrim_append_zero {before : List Byte} (after : List Byte) (h : ∀ b ∈ before, b ≠ 0) :
    asciiTrim (before ++ 0 :: after) = before := by
  rw [asciiTrim_eq_takeWhile, List.takeWhile_append_of_pos fun b hb => bne_iff_ne.2 (h b hb),
    List.takeWhile_cons_of_neg (by decide), List.append_nil]

/-- Settles O7: the trim keeps a field without a zero, and stops at the first zero of any other. -/
theorem asciiTrimStopsAtFirstZero : Obligations.AsciiTrimStopsAtFirstZero := by
  refine fun field s => ⟨asciiTrim field, rfl, asciiTrim_of_forall_ne, ?_⟩
  rintro before after rfl h
  exact asciiTrim_append_zero after h

/-- A value contains a mask when it has each of the mask's bits (R185). -/
theorem flagTest_iff {v m : Byte} : flagTest v m = true ↔ ∀ k, k < 8 → m.getLsbD k = true → v.getLsbD k = true := by
  rw [flagTest, decide_eq_true_iff]
  constructor
  · intro h k _ hm
    rw [← h, BitVec.getLsbD_and, Bool.and_eq_true] at hm
    exact hm.1
  · intro h
    refine BitVec.eq_of_getLsbD_eq fun k hk => ?_
    rw [BitVec.getLsbD_and, Bool.and_eq_right_iff_imp]
    exact h k hk

/-- Settles O8: bit by bit. -/
theorem flagActiveWhenEveryMaskBitIsSet : Obligations.FlagActiveWhenEveryMaskBitIsSet :=
  fun v m _ => ⟨flagTest v m, rfl, flagTest_iff⟩

/-! ### The flags of a position record (R171, R172, R186) -/

/-- Settles O35: whatever bytes the twenty getters give, each flag is computed from the field of the same record. -/
theorem positionRecordFlags : Obligations.PositionRecordFlags := by
  intro s t h
  obtain ⟨-, -, -, p, hp, rfl⟩ := execDecPos_next h
  refine ⟨p, rfl, ?_⟩
  unfold State.positionRecord at hp
  iterate 20 obtain ⟨_, -, hp⟩ := except_bind_eq_ok.1 hp
  cases hp
  exact ⟨rfl, rfl, rfl, rfl, rfl, rfl, rfl, rfl, rfl, rfl, rfl, rfl, rfl⟩

/-! ### The version record of a readable frame (R175 to R177) -/

/-- Component `i` of a version frame with header length `hlen` (R84, R85, R176). -/
def frameComponent (f : Nat → Byte) (hlen i : Nat) : ComponentRecord where
  compType := (word32 f (hlen + 108 * i + 4)).toInt
  compTypeLabel := comptypeLabel (word32 f (hlen + 108 * i + 4)).toInt
  model := text f (hlen + 108 * i + 8) 16
  serial := text f (hlen + 108 * i + 24) 16
  hwVersion := text f (hlen + 108 * i + 40) 16
  swVersion := text f (hlen + 108 * i + 56) 16
  bootVersion := text f (hlen + 108 * i + 72) 16
  compDate := text f (hlen + 108 * i + 88) 12
  compTime := text f (hlen + 108 * i + 100) 12

section ReadableFrame

variable {s : State} {f : Nat → Byte}

theorem component_of_frameIs (hf : frameIs s f) (hl : frameLengths s) {i : Nat}
    (h : 4 + 108 * (i + 1) ≤ s.blen.toNat) : s.component i = .ok (frameComponent f s.hlen.toNat i) := by
  have hin : 108 * i + 112 ≤ s.blen.toNat := by omega
  simp (disch := omega) only [State.component, Config.verRecLen, getI32_of_frameIs hf hl, getAscii_of_frameIs hf hl,
    except_bind_ok, ← Nat.add_assoc]
  rfl

theorem components_of_frameIs (hf : frameIs s f) (hl : frameLengths s) {i n : Nat}
    (h : n = 0 ∨ 4 + 108 * (i + n) ≤ s.blen.toNat) :
    s.components i n = .ok ((List.range' i n).map (frameComponent f s.hlen.toNat)) := by
  induction n generalizing i with
  | zero => rfl
  | succ n ih =>
    rw [State.components, component_of_frameIs hf hl (by omega), except_bind_ok, ih (.inr (by omega))]
    rfl

/-- The two tests that the model makes of a version body are the spec's one (R162). -/
theorem versionFits_iff {blen : Nat} {count : Int} :
    (decide (4 ≤ blen) && countFits blen count) = true ↔ versionFits blen count := by
  rw [Bool.and_eq_true, decide_eq_true_iff, countFits_iff, versionFits]

theorem verFits_of_versionFits (hf : frameIs s f) (hl : frameLengths s)
    (h : versionFits s.blen.toNat (word32 f s.hlen.toNat).toInt) : s.verFits = .ok true := by
  rw [verFits_of_frameIs hf hl, versionFits_iff.2 h]

theorem verFits_of_not_versionFits (hf : frameIs s f) (hl : frameLengths s)
    (h : ¬versionFits s.blen.toNat (word32 f s.hlen.toNat).toInt) : s.verFits = .ok false := by
  rw [verFits_of_frameIs hf hl, Bool.eq_false_iff.2 (mt versionFits_iff.1 h)]

theorem versionRecord_of_frameIs (hf : frameIs s f) (hl : frameLengths s)
    (h : versionFits s.blen.toNat (word32 f s.hlen.toNat).toInt) :
    s.versionRecord = .ok
      { count := (word32 f s.hlen.toNat).toInt
        components := (List.range (word32 f s.hlen.toNat).toInt.toNat).map (frameComponent f s.hlen.toNat) } := by
  obtain ⟨h4, hcount⟩ := h
  rw [State.versionRecord, getI32_of_frameIs hf hl h4, except_bind_ok, Nat.add_zero,
    components_of_frameIs hf hl (by omega), List.range_eq_range']
  rfl

end ReadableFrame

/-- Settles O36: the components are those of the indices below the count, in order. -/
theorem versionRecordFields : Obligations.VersionRecordFields := by
  intro s f hst hf hl h10 hmt hfits
  have hmt' : s.messageType = some s.cfg.msgidVersion := hmt ▸ messageType_of_frameIs hf (by rw [hl]; omega)
  refine ⟨_, execDecVer_of_fits hst hmt' (verFits_of_versionFits hf hl hfits) (versionRecord_of_frameIs hf hl hfits),
    rfl, by rw [List.length_map, List.length_range], fun i c hc => ?_⟩
  obtain ⟨-, rfl⟩ := List.getElem?_eq_some_iff.1 hc
  simp only [List.getElem_map, List.getElem_range]
  exact ⟨rfl, rfl, rfl, rfl, rfl, rfl, rfl, rfl, rfl⟩

/-! ### The rows that give no record (R162, R165) -/

/-- Settles O32: the message type alone selects DEC.OTHER. -/
theorem otherTypesAreUnrecognized : Obligations.OtherTypesAreUnrecognized :=
  fun _ _ hst hf h6 hp hv => execDecOther_of_messageType hst (messageType_of_frameIs hf h6) hp hv

/-- Settles O33: the fit test of either message type is false. -/
theorem shortBodiesAreIntegrityViolations : Obligations.ShortBodiesAreIntegrityViolations := by
  intro s f hst hf hl h10 h
  have hmt := messageType_of_frameIs hf (by rw [hl]; omega)
  rcases h with ⟨hp, hshort⟩ | ⟨hv, hshort⟩
  · exact execDecIntegrity_of_position hst (hp ▸ hmt) (decide_eq_false (Nat.not_le.2 hshort))
  · exact execDecIntegrity_of_version hst (hv ▸ hmt) (verFits_of_not_versionFits hf hl hshort)

/-! ### The choice of one row (R161) -/

@[simp] theorem whenSelected_false (o : Result) : whenSelected false o = .refused .notSelected := rfl

section Choice

variable {s : State} {mt : BitVec 16} {fits : Bool}

theorem decodeMessage_mem (p : Params) (posFits verFits : Bool) :
    decodeMessage p mt posFits verFits ∈ [Instr.decPos, .decVer, .decIntegrity, .decOther] := by
  unfold decodeMessage
  split_ifs <;> simp

/-- DEC.DISPATCH runs the row of the table of R89. -/
theorem execDecDispatch_eq_exec_decodeMessage (hst : s.st = .decode) (hmt : s.messageType = some mt)
    (hfits : s.verFits = .ok fits) :
    execDecDispatch s = exec (decodeMessage s.cfg mt s.posFits fits) s := by
  rw [execDecDispatch_of_messageType hst hmt, hfits, withDecoded_ok, decodeMessage]
  split_ifs <;> rfl

theorem execDecPos_not_selected (hst : s.st = .decode) (hmt : s.messageType = some mt)
    (h : decodeMessage s.cfg mt s.posFits fits ≠ .decPos) : execDecPos s = .refused .notSelected := by
  have hc : (mt == s.cfg.msgidPosition && s.posFits) = false := by
    refine Bool.eq_false_iff.2 fun hc => h ?_
    obtain ⟨hp, hfits⟩ := Bool.and_eq_true_iff.1 hc
    rw [decodeMessage, if_pos (beq_iff_eq.1 hp), if_pos hfits]
  simp [execDecPos, hst, hmt, hc]

theorem execDecVer_not_selected (hst : s.st = .decode) (hmt : s.messageType = some mt)
    (hfits : s.verFits = .ok fits) (h : decodeMessage s.cfg mt s.posFits fits ≠ .decVer) :
    execDecVer s = .refused .notSelected := by
  by_cases hv : mt = s.cfg.msgidVersion
  · subst hv
    have hfalse : fits = false := by simpa [decodeMessage, msgidVersion_ne_msgidPosition] using h
    simp [execDecVer, hst, hmt, hfits, hfalse]
  · simp [execDecVer, hst, hmt, beq_eq_false_iff_ne.2 hv]

theorem execDecIntegrity_not_selected (hst : s.st = .decode) (hmt : s.messageType = some mt)
    (hfits : s.verFits = .ok fits) (h : decodeMessage s.cfg mt s.posFits fits ≠ .decIntegrity) :
    execDecIntegrity s = .refused .notSelected := by
  by_cases hp : mt = s.cfg.msgidPosition
  · have htrue : s.posFits = true := by simpa [decodeMessage, hp] using h
    simp [execDecIntegrity, hst, hmt, hp, htrue]
  · by_cases hv : mt = s.cfg.msgidVersion
    · subst hv
      have htrue : fits = true := by simpa [decodeMessage, hp] using h
      simp [execDecIntegrity, hst, hmt, hp, hfits, htrue]
    · simp [execDecIntegrity, hst, hmt, hp, beq_eq_false_iff_ne.2 hv]

theorem execDecOther_not_selected (hst : s.st = .decode) (hmt : s.messageType = some mt)
    (h : decodeMessage s.cfg mt s.posFits fits ≠ .decOther) : execDecOther s = .refused .notSelected := by
  have hc : (mt != s.cfg.msgidPosition && mt != s.cfg.msgidVersion) = false := by
    refine Bool.eq_false_iff.2 fun hc => h ?_
    obtain ⟨hp, hv⟩ := Bool.and_eq_true_iff.1 hc
    rw [decodeMessage, if_neg (bne_iff_ne.1 hp), if_neg (bne_iff_ne.1 hv)]
  simp [execDecOther, hst, hmt, hc]

/-- A row that the message type and the fit tests do not choose is not selected (log 8). -/
theorem exec_not_selected {j : Instr} (hst : s.st = .decode) (hmt : s.messageType = some mt)
    (hfits : s.verFits = .ok fits) (hj : j ∈ [Instr.decPos, .decVer, .decIntegrity, .decOther])
    (h : j ≠ decodeMessage s.cfg mt s.posFits fits) : exec j s = .refused .notSelected := by
  simp only [List.mem_cons, List.not_mem_nil, or_false] at hj
  rcases hj with rfl | rfl | rfl | rfl
  · exact execDecPos_not_selected hst hmt h.symm
  · exact execDecVer_not_selected hst hmt hfits h.symm
  · exact execDecIntegrity_not_selected hst hmt hfits h.symm
  · exact execDecOther_not_selected hst hmt h.symm

end Choice

/-- Whichever row DEC.DISPATCH runs, it writes `res` and `rec` only, with a code that leaves a frame (R160, R230). -/
theorem execDecDispatch_outcome {s t : State} (h : execDecDispatch s = .next t) :
    ∃ r o, t = s.setOutcome r o ∧ hasFrame r = true := by
  rcases execDecDispatch_next h with h | h | h | h
  · obtain ⟨-, -, -, p, -, rfl⟩ := execDecPos_next h
    exact ⟨_, _, rfl, rfl⟩
  · obtain ⟨-, -, -, v, -, rfl⟩ := execDecVer_next h
    exact ⟨_, _, rfl, rfl⟩
  · obtain ⟨-, rfl, -⟩ := execDecIntegrity_next h
    exact ⟨_, _, rfl, rfl⟩
  · obtain ⟨-, rfl, -⟩ := execDecOther_next h
    exact ⟨_, _, rfl, rfl⟩

theorem execDecDispatch_of_accepted {s : State} (hst : s.st = .decode) (ha : s.accepted) :
    ∃ r o, execDecDispatch s = .next (s.setOutcome r o) ∧ hasFrame r = true := by
  obtain ⟨t, ht⟩ := exists_execDecDispatch hst ha
  obtain ⟨r, o, rfl, hr⟩ := execDecDispatch_outcome ht
  exact ⟨r, o, ht, hr⟩

/-- Settles O37: the row is the one that the table of R89 gives for the frame's message type and lengths. -/
theorem dispatchRunsExactlyOneRow : Obligations.DispatchRunsExactlyOneRow := by
  intro s hst ha
  obtain ⟨hf, hl, h10⟩ := ha.readable
  have hmt := messageType_of_frameIs hf (by rw [hl]; omega)
  have hfits := verFits_of_frameIs hf hl
  have hrow := execDecDispatch_eq_exec_decodeMessage hst hmt hfits
  obtain ⟨r, o, hnext, -⟩ := execDecDispatch_of_accepted hst ha
  exact ⟨_, decodeMessage_mem .., hrow, ⟨r, o, hrow.symm.trans hnext⟩, fun j hj => exec_not_selected hst hmt hfits hj⟩

/-- Settles O38: the dispatched row completes, and the decode step then enters IDLE. -/
theorem decodeStepAlwaysCompletes : Obligations.DecodeStepAlwaysCompletes := by
  intro s hst ha
  obtain ⟨r, o, hnext, hr⟩ := execDecDispatch_of_accepted hst ha
  have hstep : execDecStep s = .next ((s.setOutcome r o).goto .idle) := by
    rw [execDecStep, hnext, andThen_of_next]
  exact ⟨r, o, hnext, hstep, hr⟩

end Sys2Proof.Machine

/-! SUPPORT. The proofs of the statements of spec/43_enum_tables.md: each lookup hands back an entry's label or the
default, and a code that no table can have as a key gives the default. -/

namespace Sys2Proof.Machine

open Sys2Proof.Certificates

/-! ### What each lookup hands to the port (R201 to R204, log 10) -/

section Operations

variable {code : Int} {s : State}

theorem exec_lutSolstat : exec (.lutSolstat code) s = .next { s with result := .label (solstatLabel code) } := rfl

theorem exec_lutPostype : exec (.lutPostype code) s = .next { s with result := .label (postypeLabel code) } := rfl

theorem exec_lutDatum : exec (.lutDatum code) s = .next { s with result := .label (datumLabel code) } := rfl

theorem exec_lutComptype : exec (.lutComptype code) s = .next { s with result := .label (comptypeLabel code) } := rfl

end Operations

/-! ### A lookup with a default is total (R200) -/

section Default

variable {entries : List (Int × String)} {code : Int} {label fallback : String}

/-- The first entry with a key is the one found under it, whether or not the keys are distinct. -/
theorem lookup_append_cons {before : List (Int × String)} (after : List (Int × String))
    (h : ∀ e ∈ before, e.1 ≠ code) : lookup (before ++ (code, label) :: after) code = some label := by
  induction before with
  | nil => exact if_pos rfl
  | cons e before ih =>
    obtain ⟨hne, hrest⟩ := List.forall_mem_cons.1 h
    exact (if_neg hne).trans (ih hrest)

theorem isLabel_getD_lookup : isLabel entries fallback code ((lookup entries code).getD fallback) := by
  constructor
  · intro h
    rw [lookup_eq_none.2 h, Option.getD_none]
  · rintro before label after rfl h
    rw [lookup_append_cons after h, Option.getD_some]

end Default

theorem lookup_postypeEntries_sixteen : lookup postypeEntries 16 = some "SINGLE" := if_pos rfl

/-- Settles O9: the labels are the four lookups', each an entry's label or the default. -/
theorem lookupsAreTotalWithDefaults : Obligations.LookupsAreTotalWithDefaults := by
  intro code s
  have hsingle : code = 16 → postypeLabel code = "SINGLE" := by
    rintro rfl
    rw [postypeLabel, lookup_postypeEntries_sixteen, Option.getD_some]
  exact ⟨_, _, _, _, exec_lutSolstat, isLabel_getD_lookup, exec_lutPostype, isLabel_getD_lookup, hsingle,
    exec_lutDatum, isLabel_getD_lookup, exec_lutComptype, isLabel_getD_lookup⟩

/-! ### Codes outside 32 signed bits (R205, log 19) -/

section OutOfRange

variable {code : Int} (h : isI32 code = false)
include h

theorem getD_lookup_of_not_isI32 (t : LabelTable) (fallback : String) :
    (lookup t.entries code).getD fallback = fallback := by
  rw [lookup_of_not_isI32 t h, Option.getD_none]

theorem solstatLabel_of_not_isI32 : solstatLabel code = "Unknown solution status" :=
  getD_lookup_of_not_isI32 h Config.solstatTable _

theorem postypeLabel_of_not_isI32 : postypeLabel code = "UNKNOWN" :=
  getD_lookup_of_not_isI32 h Config.postypeTable.toLabelTable _

theorem datumLabel_of_not_isI32 : datumLabel code = "UNKNOWN DATUM" :=
  getD_lookup_of_not_isI32 h Config.datumTable _

theorem comptypeLabel_of_not_isI32 : comptypeLabel code = "Unknown component" :=
  getD_lookup_of_not_isI32 h Config.comptypeTable _

end OutOfRange

theorem isI32_eq_false_iff {code : Int} : isI32 code = false ↔ code < -2147483648 ∨ 2147483647 < code := by
  rw [← Bool.not_eq_true, isI32_iff]
  omega

/-- Settles O58: the keys are distinct 32-bit signed integers by the type of a table, so an entry is found under its key,
and a second label for 16 would be found where "SINGLE" is. -/
theorem tablesMapDistinctSignedCodes : Obligations.TablesMapDistinctSignedCodes := by
  refine ⟨fun t code label hmem => ?_, fun code s hcode => ?_, fun label hmem => ?_⟩
  · obtain ⟨hlow, hhigh⟩ := isI32_iff.1 (t.key_isI32 hmem)
    exact ⟨lookup_of_mem t.keys_nodup hmem, hlow, Int.le_of_lt_add_one hhigh⟩
  · have h := isI32_eq_false_iff.2 hcode
    rw [exec_lutSolstat, exec_lutPostype, exec_lutDatum, exec_lutComptype, solstatLabel_of_not_isI32 h,
      postypeLabel_of_not_isI32 h, datumLabel_of_not_isI32 h, comptypeLabel_of_not_isI32 h]
    exact ⟨rfl, rfl, rfl, rfl⟩
  · have hfound := lookup_of_mem Config.postypeTable.toLabelTable.keys_nodup hmem
    exact Option.some.inj (hfound.symm.trans lookup_postypeEntries_sixteen)

end Sys2Proof.Machine

/-! SUPPORT. The proof of the statement of spec/60_exceptions.md about a corrupted trailer: what a scan that goes on leaves
unchanged, and the mismatch behind a stored frame. -/

namespace Sys2Proof.Machine

open Sys2Proof.Certificates

/-! ### A scan that goes on has changed no output (R148, R230) -/

/-- The result code, the record, the frame length and the recorded faults are as they were. -/
structure SameOutputs (s t : State) : Prop where
  res : t.res = s.res := by rfl
  record : t.record = s.record := by rfl
  frameLen : t.frameLen = s.frameLen := by rfl
  fault : t.fault = s.fault := by rfl

theorem SameOutputs.trans {s t u : State} (hst : SameOutputs s t) (htu : SameOutputs t u) : SameOutputs s u where
  res := htu.res.trans hst.res
  record := htu.record.trans hst.record
  frameLen := htu.frameLen.trans hst.frameLen
  fault := htu.fault.trans hst.fault

/-- The operation that a data byte selects writes an output only where it accepts the frame (R139). -/
theorem exec_decodeData_sameOutputs {s t : State} {b : Byte} {i : Instr} (hd : decodeData s.conds s.st b = .ok i)
    (h : exec i s = .next t) (ht : t.st ≠ .decode) : SameOutputs s t := by
  rcases exec_decodeData_next rfl hd h with ⟨-, -, rfl⟩ | ⟨-, -, -, rfl⟩ | ⟨-, -, rfl⟩ | ⟨-, hstore⟩ | ⟨-, -, rfl⟩ |
    ⟨-, -, -, rfl⟩
  case inr.inr.inr.inl =>
    rcases hstore with ⟨-, -, rfl⟩ | ⟨-, -, rfl⟩ | ⟨-, -, rfl⟩ | ⟨-, -, rfl⟩ | ⟨-, -, _, -, rfl⟩ | ⟨-, -, rfl⟩ |
      ⟨-, -, rfl⟩ <;> exact {}
  case inr.inr.inr.inr.inr => exact absurd rfl ht
  all_goals exact {}

/-- The core's move is no turn of the host. -/
theorem coreFetch_host {s t : State} (h : runFetched (coreFetch s) = .next t) : t.host = s.host := by
  rcases coreFetch_next h with ⟨-, h⟩ | ⟨-, -, rfl⟩ | ⟨-, rest, ⟨-, -, rfl⟩ | ⟨-, rfl⟩ | ⟨b, i, -, hd, h⟩⟩
  · obtain ⟨-, r, o, rfl, -⟩ := execDecStep_next h
    rfl
  · rfl
  · rfl
  · rfl
  · exact exec_decodeData_host (s := s.setStream rest) hd h

/-- A turn of the core that leaves a read outstanding began with one and changed no output: the decode step, a Timeout and
an Error enter IDLE, and an acceptance DECODE. -/
theorem coreFetch_enters_reading {s t : State} (h : runFetched (coreFetch s) = .next t) (ht : isReading t.st = true) :
    isReading s.st = true ∧ SameOutputs s t := by
  rcases coreFetch_next h with ⟨-, h⟩ | ⟨-, -, rfl⟩ | ⟨hr, rest, ⟨-, -, rfl⟩ | ⟨-, rfl⟩ | ⟨b, i, -, hd, h⟩⟩
  · obtain ⟨-, r, o, rfl, -⟩ := execDecStep_next h
    cases ht
  · exact ⟨ht, {}⟩
  · cases ht
  · cases ht
  · have hst : t.st ≠ .decode := fun hst => by simp [hst, isReading] at ht
    obtain ⟨hres, hrecord, hframeLen, hfault⟩ := exec_decodeData_sameOutputs (s := s.setStream rest) hd h hst
    exact ⟨hr, hres, hrecord, hframeLen, hfault⟩

/-- A run without a turn of the host that ends with a read outstanding began with one and changed no output. -/
theorem run_enters_reading {s t : State} {n : Nat} (hh : s.host = []) (h : core.run n s = .next t)
    (ht : isReading t.st = true) : isReading s.st = true ∧ SameOutputs s t := by
  induction n generalizing s with
  | zero =>
    cases h
    exact ⟨ht, {}⟩
  | succ n ih =>
    obtain ⟨u, hstep, hrun⟩ := run_succ_next (M := core) h
    have hcore : runFetched (coreFetch s) = .next u := (step_core hh).symm.trans hstep
    obtain ⟨hu, hut⟩ := ih ((coreFetch_host hcore).trans hh) hrun
    obtain ⟨hs, hsu⟩ := coreFetch_enters_reading hcore hu
    exact ⟨hs, hsu.trans hut⟩

/-! ### A trailer that is not the checksum (R140) -/

/-- Any other trailer is consumed whole, and the candidate is dropped. -/
theorem run_trlMismatch {s : State} {frame : List Byte} {trailer : Word} {rest : List Response} (hst : s.st = .trailer)
    (hh : s.holds frame) (htrl : s.trl = 0) (htcnt : s.tcnt = 0) (hne : trailer ≠ crc32 frame)
    (hs : s.receives (le32bytes trailer) rest) :
    ∃ t, core.run 4 s = .next t ∧ t.st = .wantSync1 ∧ t.idx = 0 ∧ t.stream = rest := by
  obtain ⟨-, -, hacc⟩ := hh
  have hcrc : fullTrailer (lowBytes trailer 3) (trailer.extractLsb' 24 8) ≠ s.acc := by
    rwa [fullTrailer_lowBytes, hacc]
  have htakes := takes_trlMismatch (s := s.trailerRead trailer 3 rest) hst rfl hcrc
  have hlast := step_of_takes (s := s.trailerRead trailer 3 (_ :: rest)) hs.1 rfl htakes
  exact ⟨_, (run_add (M := core) (run_trailer hst htrl htcnt hs) 1).trans (run_succ (M := core) hlast 0), rfl, rfl, rfl⟩

/-- Settles O57: the frame is stored as in a scan without noise, the mismatch drops it, and the run changes no output
because a read is outstanding at its end. -/
theorem corruptedTrailerResumesTheScan : Obligations.CorruptedTrailerResumesTheScan := by
  intro s frame trailer rest hst hh hframe hne hs
  have hs : s.receives ([] ++ frame ++ le32bytes trailer) rest := ⟨hh, hs⟩
  have hno : ¬preamble <:+: [] := by decide
  obtain ⟨t, hrun, hrec, ht, hholds, htrl, htcnt⟩ := run_noise_frame hst hno hframe (State.receives_append.1 hs)
  obtain ⟨u, hrun', hu, hidx, hstream⟩ := run_trlMismatch ht hholds htrl htcnt hne (State.receives_nil.1 hrec)
  rw [List.length_nil, Nat.zero_add] at hrun
  have hwhole : core.run (frame.length + 4) s = .next u := (run_add (M := core) hrun 4).trans hrun'
  obtain ⟨-, hres, hrecord, hframeLen, hfault⟩ := run_enters_reading hh hwhole (by rw [hu]; rfl)
  exact ⟨u, hwhole, hu, hidx, hstream, hres, hrecord, hframeLen, hfault⟩

end Sys2Proof.Machine

/-! SUPPORT. The proof of the statement of spec/70_reset_and_hazards.md about the accepted frame: with no read outstanding,
only START and reset touch it. -/

namespace Sys2Proof.Machine

open Sys2Proof.Certificates

/-- The buffer and the three lengths of a frame are as they were, and no read is outstanding in `t` (R269). -/
def State.keepsFrame (s t : State) : Prop :=
  t.buf = s.buf ∧ t.hlen = s.hlen ∧ t.blen = s.blen ∧ t.frameLen = s.frameLen ∧ (t.st = .decode ∨ t.st = .idle)

theorem isReading_of_decode_or_idle {st : ScanState} (h : st = .decode ∨ st = .idle) : isReading st = false := by
  rcases h with rfl | rfl <;> rfl

/-- With no read outstanding the core's move is the decode step, which writes the outcome alone (R160), or a hold. -/
theorem coreFetch_keepsFrame {s t : State} (hs : s.st = .decode ∨ s.st = .idle)
    (h : runFetched (coreFetch s) = .next t) : s.keepsFrame t := by
  rcases coreFetch_next h with ⟨-, h⟩ | ⟨-, -, rfl⟩ | ⟨hr, -⟩
  · obtain ⟨-, r, o, rfl, -⟩ := execDecStep_next h
    exact ⟨rfl, rfl, rfl, rfl, .inr rfl⟩
  · exact ⟨rfl, rfl, rfl, rfl, hs⟩
  · exact absurd hr (Bool.eq_false_iff.1 (isReading_of_decode_or_idle hs))

/-- Of the CTRL writes only a START in IDLE starts a scan (R120, R143). -/
theorem exec_decodeCtrl_keepsFrame {s t : State} {w : Byte} (hs : s.st = .decode ∨ s.st = .idle)
    (hw : s.st = .idle → w.getLsbD 0 = false) (h : exec (decodeCtrl w) s = .next t) : s.keepsFrame t := by
  rcases exec_decodeCtrl_next h with ⟨h0, hidle, -⟩ | ⟨-, -, rfl⟩ | ⟨-, rfl⟩
  · exact absurd h0 (Bool.eq_false_iff.1 (hw hidle))
  · exact ⟨rfl, rfl, rfl, rfl, hs⟩
  · exact ⟨rfl, rfl, rfl, rfl, hs⟩

/-- A host read writes no register of the frame (R34 to R41). -/
theorem hostRead_keepsFrame {s t : State} {target : Target} (hs : s.st = .decode ∨ s.st = .idle)
    (h : hostRead s target = .next t) : s.keepsFrame t := by
  rcases hostRead_next h with ⟨i, -, -, rfl⟩ | ⟨-, r, rfl⟩ <;> exact ⟨rfl, rfl, rfl, rfl, hs⟩

/-- Settles O51: the core's move, or one turn of the host that is neither a START in IDLE nor reset. -/
theorem acceptedFrameIsImmutable : Obligations.AcceptedFrameIsImmutable := by
  intro s t hs _ h hna hnostart
  rcases step_next h with ⟨turns, -, h⟩ | ⟨turns, w, hh, h⟩ | ⟨turns, target, w, -, -, rfl⟩ |
    ⟨turns, target, -, h⟩ | ⟨turns, hh, -⟩
  · exact coreFetch_keepsFrame (s := s.setHost turns) hs h
  · have hw : writesCtrl s w := by simp [writesCtrl, hh]
    exact exec_decodeCtrl_keepsFrame (s := s.setHost turns) hs (hnostart w hw) h
  · exact ⟨rfl, rfl, rfl, rfl, hs⟩
  · exact hostRead_keepsFrame (s := s.setHost turns) hs h
  · exact absurd (by simp [asserts, hh]) hna

end Sys2Proof.Machine
